-- ==== Sys2Proof/Word.lean ====
section
/-! DEFINITION. The number types of the model: octets of the supervisory line, the two-octet check, and the finite
number ranges the manual gives lines, bearers, receivers, phases and alert positions (00_scope.md, Numbering and
notation). Times are plain `Nat` milliseconds, power is `Nat` PU and ringing load is `Nat` RU, because the manual
says arithmetic on them is integer arithmetic without rounding. -/

namespace Sys2Proof

/-- Eight bits on the supervisory line (Table 0-3). -/
abbrev Octet := BitVec 8

/-- The 16-bit cyclic redundancy check (R164). -/
abbrev Check := BitVec 16

/-- Subscriber lines are numbered 0 to 23. -/
abbrev LineNo := Fin 24

/-- Bearers are numbered 0 to 5. -/
abbrev BearerNo := Fin 6

/-- Tone receivers are numbered 0 to 3. -/
abbrev ReceiverNo := Fin 4

/-- Ring phases are numbered 0 to 2. -/
abbrev PhaseNo := Fin 3

/-- Alert table positions are numbered 0 to 7. -/
abbrev AlertPos := Fin 8

/-- Cadence entries are numbered 0 to 7. -/
abbrev CadenceNo := Fin 8

/-- Every line, in ascending order. -/
def allLines : List LineNo := List.finRange 24

/-- Every bearer, in ascending order. -/
def allBearers : List BearerNo := List.finRange 6

/-- Every receiver, in ascending order. -/
def allReceivers : List ReceiverNo := List.finRange 4

/-- Every ring phase, in ascending order. -/
def allPhases : List PhaseNo := List.finRange 3

/-- Every alert table position, in ascending order. -/
def allPositions : List AlertPos := List.finRange 8

end Sys2Proof
end

