-- ==== Sys2Proof/Syntax.lean ====
section
/-! DEFINITION. The commands of the NK2406: `Instr`, one constructor per row of spec/opcode_table.json, and
`Request`, what one valid frame from the host carries (Table 11-6). A request's fields are the raw numbers the
frame carries, because the owning rule checks or clamps them; an event's fields are the identities it names. -/

namespace Sys2Proof

/-- The debounced or sampled state of a loop (R3): ON is loop open, OFF is loop closed. -/
inductive Hook where
  | on
  | off
  deriving DecidableEq, Repr

/-- A digit code of a digit list or of a plan entry (Table 2-1, Table 3-3): 0..9 or `*`. -/
inductive Digit where
  | num (d : Fin 10)
  | star
  deriving DecidableEq, Repr

/-- What a tone receiver recognises (R53): a digit code or `#`. -/
inductive Key where
  | digit (d : Digit)
  | hash
  deriving DecidableEq, Repr

/-- The four tone sources (Table 7-2). -/
inductive ToneKind where
  | dial
  | busy
  | congestion
  | howler
  deriving DecidableEq, Repr

/-- One entry of a LOAD_PLAN request as the frame carries it (Table 11-6). -/
structure PlanRow where
  leading : List Nat
  length : Nat
  cls : Nat
  deriving DecidableEq, Repr

/-- What a valid frame asks for: the rows of Table 11-6, or a record R167 answers with BAD_RECORD. -/
inductive Request where
  | partQuery
  | lineQuery (line : Nat)
  | bearerQuery (bearer : Nat)
  | lineConfig (line signalling ringerLoad alertGroup ceiling restricted : Nat)
  | energize (lines : List Nat)
  | deenergize (lines : List Nat)
  | clear (line tone : Nat)
  | alert (number kind target cadence timeout : Nat)
  | cancelAlert (number : Nat)
  | blockBearer (bearer : Nat)
  | unblockBearer (bearer : Nat)
  | testBearer (bearer duration threshold inject yields : Nat)
  | setPower (budget capacity : Nat)
  | setTimers (sample firstDigit interdigit waitLimit clearing supervision : Nat)
  | loadPlan (count : Nat) (entries : List PlanRow)
  | loadCadence (entry : Nat) (durations : List Nat)
  | conserve (limit : Nat)
  | restart
  | unknown (type : Octet)
  deriving DecidableEq, Repr

/-- The commands: one constructor per row of spec/opcode_table.json. -/
inductive Instr where
  /-- POWER_ON (R172), with the straps it reads (Table 0-1). -/
  | powerOn (stagger rate : Bool) (unit : Fin 4)
  /-- PART_QUERY completes reception (R124). -/
  | partQuery
  /-- LINE_QUERY completes reception (R42). -/
  | lineQuery (line : Nat)
  /-- BEARER_QUERY completes reception (R87). -/
  | bearerQuery (bearer : Nat)
  /-- LINE_CONFIG completes reception (R41). -/
  | lineConfig (line signalling ringerLoad alertGroup ceiling restricted : Nat)
  /-- ENERGIZE completes reception (R18). -/
  | energize (lines : List Nat)
  /-- DEENERGIZE completes reception (R19). -/
  | deenergize (lines : List Nat)
  /-- CLEAR completes reception (R33). -/
  | clear (line tone : Nat)
  /-- ALERT completes reception (R90). -/
  | alert (number kind target cadence timeout : Nat)
  /-- CANCEL_ALERT completes reception (R104). -/
  | cancelAlert (number : Nat)
  /-- BLOCK_BEARER completes reception (R82). -/
  | blockBearer (bearer : Nat)
  /-- UNBLOCK_BEARER completes reception (R84). -/
  | unblockBearer (bearer : Nat)
  /-- TEST_BEARER completes reception (R137). -/
  | testBearer (bearer duration threshold inject yields : Nat)
  /-- SET_POWER completes reception (R121). -/
  | setPower (budget capacity : Nat)
  /-- SET_TIMERS completes reception (R2, R34, R51, R153). -/
  | setTimers (sample firstDigit interdigit waitLimit clearing supervision : Nat)
  /-- LOAD_PLAN completes reception (R58). -/
  | loadPlan (count : Nat) (entries : List PlanRow)
  /-- LOAD_CADENCE completes reception (R132). -/
  | loadCadence (entry : Nat) (durations : List Nat)
  /-- CONSERVE completes reception (R157). -/
  | conserve (limit : Nat)
  /-- RESTART completes reception (R171). -/
  | restart
  /-- A valid frame of unknown type, or of a wrong body length, completes reception (R167). -/
  | unknownRequest (type : Octet)
  /-- A complete frame whose check mismatches is discarded (R165); `octets` are its octets after the start octet. -/
  | frameDiscarded (octets : List Octet)
  /-- A gap of more than 20 ms inside a frame (R165). -/
  | receiveGap
  /-- The transmitter begins the reply at the queue head (R168). -/
  | replyTransmit
  /-- The transmitter begins a PART_REPORT (R170). -/
  | partReport
  /-- The transmitter begins an ALERT_REPORT (R109). -/
  | alertReport
  /-- The transmitter begins a BEARER_REPORT (R86). -/
  | bearerReport
  /-- The transmitter begins a LINE_REPORT (R43). -/
  | lineReport
  /-- The frame in transmission ends (R168). -/
  | frameSent
  /-- A debounced ON transition is declared on a line (R3, R6). -/
  | onTransition (line : LineNo)
  /-- A debounced OFF transition is declared on a line (R3, R6). -/
  | offTransition (line : LineNo)
  /-- A debounce run on a line ends with an agreeing sample (R9, R12). -/
  | debounceRunFails (line : LineNo)
  /-- The release point of a line is reached (R12). -/
  | releasePointReached (line : LineNo)
  /-- The gap point of a line is reached (R8). -/
  | gapPointReached (line : LineNo)
  /-- The energize group timer expires (R16). -/
  | groupTimerExpiry
  /-- A tone receiver reports a digit event (R53). -/
  | receiverDigit (receiver : ReceiverNo) (key : Key)
  /-- The first-digit timer of a line expires (R49). -/
  | firstDigitTimeout (line : LineNo)
  /-- The interdigit timer of a line expires (R50). -/
  | interdigitTimeout (line : LineNo)
  /-- The wait timer of a line in the receiver wait list expires (R48). -/
  | receiverWaitTimeout (line : LineNo)
  /-- The wait timer of a line in the seizure queue expires (R30). -/
  | queueWaitTimeout (line : LineNo)
  /-- The clearing timer of a line expires (R34). -/
  | clearingTimeout (line : LineNo)
  /-- The howler timer of a line expires (R35). -/
  | howlerTimeout (line : LineNo)
  /-- The ring timeout of the alert at a table position expires (R103). -/
  | ringTimeout (position : AlertPos)
  /-- A window of a ring phase starts (R94). -/
  | phaseWindowStart (phase : PhaseNo)
  /-- A segment of the ringing burst of the alert at a table position ends (R128). -/
  | ringSegmentEnd (position : AlertPos)
  /-- A segment of a running tone source ends (R127). -/
  | toneSegmentEnd (source : ToneKind)
  /-- The duration timer of the running test expires (R141). -/
  | testDurationExpiry
  /-- A whole second of test time passes with inject set (R140). -/
  | testInjection
  /-- The checker reports LOCK (R140). -/
  | lock
  /-- The checker reports BIT_ERROR (R140). -/
  | bitError
  /-- The checker reports LOCK_LOST (R140). -/
  | lockLost
  /-- A frame pulse arrives on the bearer highway (R147). -/
  | framePulse
  /-- 1 ms passes without a frame pulse (R147, R148). -/
  | highwayLoss
  /-- The restore timer reaches 100 ms (R147, R148, R151). -/
  | highwayRestore
  /-- The grace timer expires (R149). -/
  | graceTimerExpiry
  /-- The supervision timer expires (R154). -/
  | supervisionTimeout
  /-- The conserve limit timer expires (R160). -/
  | limitTimerExpiry
  /-- The loop of a line is sampled at a sample instant (R3). -/
  | sampleInstant (line : LineNo) (sample : Hook)
  /-- An octet arrives on the supervisory line (R165). -/
  | octetReceived (octet : Octet)
  deriving DecidableEq, Repr

end Sys2Proof
end

