-- ==== Sys2Proof/Decode.lean ====
section
/-! DEFINITION. Reading a command from the bits of spec/opcode_table.json. -/

/-- The table gives no row any bits: the commands of this block are events and frames (log entry 22). The frames of the
supervisory line are read by Sys2Proof.Machine.Frame.request. -/
def Sys2Proof.decodeTableWord (_nbits _w : Nat) : Option Sys2Proof.Instr :=
  none
end

