-- ==== Sys2Proof/Config.lean ====
section
/-! DEFINITION. What one implementation fixes: the fixed durations and costs the manual states, and the free values,
which are opaque constants because the manual states none. -/

namespace Sys2Proof.Config

/-- The energize group timer, 250 ms (R16). -/
def groupMs : Nat := 250

/-- The make that closes a pulse train, 250 ms (R4, R7). -/
def gapMs : Nat := 250

/-- The break that is a RELEASE, 1000 ms (R12). -/
def releaseMs : Nat := 1000

/-- The howler timer, 20 s (R35). -/
def howlerMs : Nat := 20000

/-- The grace timer, 2000 ms (R148). -/
def graceMs : Nat := 2000

/-- The restore timer, 100 ms (R147). -/
def restoreMs : Nat := 100

/-- The sample period in conserve mode, 32 ms (R2). -/
def conserveSampleMs : Nat := 32

/-- The longest gap between two octets of one frame, 20 ms (R165). -/
def octetGapMs : Nat := 20

/-- The ring cycle, 6000 ms (R93). -/
def ringCycleMs : Nat := 6000

/-- The window of one ring phase, 2000 ms (R93). -/
def ringWindowMs : Nat := 2000

/-- The answer reserve of one outstanding alert, 6 PU (R111). -/
def answerReservePU : Nat := 6

/-- The ring reserve for one RU of the heaviest phase, 3 PU (R111). -/
def ringReservePU : Nat := 3

/-- The cost of REDUCED feed, 6 PU (R111). -/
def reducedPU : Nat := 6

/-- The cost of FULL feed, 9 PU (R111). -/
def fullPU : Nat := 9

/-- The base cost in ACTIVE, 20 PU (R111). -/
def activePU : Nat := 20

/-- The base cost in CONSERVE, 8 PU (R111). -/
def conservePU : Nat := 8

/-- Places in the reply queue (R166). -/
def replyPlaces : Nat := 4

/-- DESIGN CHOICE (log entry 3): which of several events that fall due at one millisecond is taken next, a free value.
R1 leaves events of different records without an order and states the outcome of either order for one record. -/
opaque dueOrder : Nat → Nat

/-- DESIGN CHOICE (log entry 32): whether an OFF transition that a frame has overtaken on the way to Mode Control is
handled before the frame's request, a free value; R162 allows both orders. -/
opaque offFirst : Nat → Bool

/-- DESIGN CHOICE (log entry 14): how many bits a bearer timeslot carries in one millisecond, a free value; the manual
states no bit rate for the highway. -/
opaque bitsPerMs : Nat

/-- DESIGN CHOICE (log entry 14): the bits that arrive on the incoming timeslot of the bearer under test, free values;
R138 says the checker reads what arrives there, whatever its source. -/
opaque incomingBit : Nat → Bool

end Sys2Proof.Config
end

