-- ==== Sys2Proof/Machine/Blocks.lean ====
section
/-! DEFINITION. The records of the eleven functional blocks of Table 0-2, each as plain data with the manual's own
fields, and each block's power-on value. A value that the manual calls a mirror of another block's field, or a sum
over other fields, is stored once and computed where it is read (log entry 17). -/

namespace Sys2Proof.Machine

/-! ### Line Scanner (Table 1-1) -/

/-- The scanner's per-line record (R4). Its `hook` is also the hook field of the line record (R3, R21). -/
structure ScanRecord where
  hook : Hook
  runCount : Nat
  runStart : Option Nat
  lastTransition : Option Nat
  pulseCount : Nat
  releasePoint : Option Nat
  gapPoint : Option Nat
  deriving DecidableEq, Repr

/-- Table 1-1: the values at power-on, at RESTART, on energizing and on deenergizing. -/
def ScanRecord.initial : ScanRecord :=
  { hook := .on, runCount := 0, runStart := none, lastTransition := none, pulseCount := 0,
    releasePoint := none, gapPoint := none }

/-- A hook signal that the scanner has handed over and that has not been taken yet (R14): the ANSWER of a line for the
alert under a number (R37, R101), or the OFF transition of a line that is on its way to Mode Control as a wake cause
(R20, R162). -/
inductive Handed where
  | answer (n : LineNo) (number : Nat)
  | off (n : LineNo)
  deriving DecidableEq, Repr

/-- The line of a signal (R14). -/
def Handed.line : Handed → LineNo
  | .answer n _ => n
  | .off n => n

/-- The line of a signal that is a wake cause (R20). -/
def Handed.wakes : Handed → Option LineNo
  | .answer _ _ => none
  | .off n => some n

/-- The Line Scanner (R2, R4, R14 to R16): the per-line records, the energize list and its group timer (expiry time), the
time of the last sample instant with the lines that are still to be sampled at it, what the loop detectors show, and the
signals handed over and not yet taken. -/
structure Scanner where
  records : Vector ScanRecord 24
  energizeList : List LineNo
  groupTimer : Option Nat
  lastSample : Nat
  unsampled : List LineNo
  loops : Vector Hook 24
  handed : List Handed
  deriving DecidableEq, Repr

/-! ### Call Control (Table 2-1) -/

/-- The nine call states (Table 2-2). -/
inductive CallState where
  | deenergized
  | idle
  | denied
  | dial
  | waitBearer
  | alerted
  | connected
  | clearing
  | lockout
  deriving DecidableEq, Repr

/-- Loop feed classes (Table 2-1). -/
inductive Feed where
  | none
  | sense
  | reduced
  | full
  deriving DecidableEq, Repr

/-- How a line dials (Table 2-1). -/
inductive Signalling where
  | pulse
  | tone
  deriving DecidableEq, Repr

/-- The highest feed class a line may be given (Table 2-1). -/
inductive Ceiling where
  | full
  | reduced
  deriving DecidableEq, Repr

/-- The class of a numbering plan entry (Table 3-3). -/
inductive PlanClass where
  | normal
  | priority
  | barred
  deriving DecidableEq, Repr

/-- What the last plan lookup found (Table 2-1). -/
structure PlanMatch where
  cls : PlanClass
  length : Nat
  deriving DecidableEq, Repr

/-- The kinds of state timer (R38). -/
inductive TimerKind where
  | firstDigit
  | interdigit
  | wait
  | clearing
  | howler
  deriving DecidableEq, Repr

/-- A running state timer: its kind and the time it expires. -/
structure StateTimer where
  kind : TimerKind
  expires : Nat
  deriving DecidableEq, Repr

/-- The seventeen line event kinds, in the order of Table 2-4. -/
inductive LineEvent where
  | energized
  | deenergized
  | originated
  | denied
  | callRequest
  | answered
  | flash
  | released
  | cleared
  | lockout
  | dialError
  | barred
  | restricted
  | queueTimeout
  | receiverTimeout
  | congestion
  | feedChanged
  deriving DecidableEq, Repr

/-- The line record (Table 2-1). The line number is its index in `State.lines`, and its hook field is the scanner's
debounced hook. -/
structure LineRecord where
  callState : CallState
  feed : Feed
  signalling : Signalling
  ringerLoad : Nat
  alertGroup : Option (Fin 32)
  ceiling : Ceiling
  restricted : Bool
  callNumber : BitVec 8
  digits : List Digit
  planMatch : Option PlanMatch
  bearer : Option BearerNo
  alert : Option Nat
  receiver : Option ReceiverNo
  tone : Option ToneKind
  flashCount : Nat
  events : List LineEvent
  timer : Option StateTimer
  deriving DecidableEq, Repr

/-- Table 2-1, the power-on column. -/
def LineRecord.initial : LineRecord :=
  { callState := .deenergized, feed := .none, signalling := .pulse, ringerLoad := 1, alertGroup := none,
    ceiling := .full, restricted := false, callNumber := 0, digits := [], planMatch := none, bearer := none,
    alert := none, receiver := none, tone := none, flashCount := 0, events := [], timer := none }

/-- Table 2-1, the RESTART column: the five config fields are kept. -/
def LineRecord.restarted (r : LineRecord) : LineRecord :=
  { LineRecord.initial with
    signalling := r.signalling, ringerLoad := r.ringerLoad, alertGroup := r.alertGroup, ceiling := r.ceiling,
    restricted := r.restricted }

/-! ### Digit Collector (Table 3-1) -/

/-- A numbering plan entry (Table 3-3). -/
structure PlanEntry where
  leading : List Digit
  length : Nat
  cls : PlanClass
  deriving DecidableEq, Repr

/-- The Digit Collector: the receivers (FREE is `none`), the receiver wait list and the numbering plan. -/
structure Collector where
  receivers : Vector (Option LineNo) 4
  waitList : List LineNo
  plan : List PlanEntry
  deriving DecidableEq, Repr

/-- Table 3-4: the numbering plan at power-on, prefix 112, length 3, PRIORITY. -/
def planAtPowerOn : List PlanEntry :=
  [{ leading := [.num 1, .num 1, .num 2], length := 3, cls := .priority }]

/-- Table 3-1, the power-on column. -/
def Collector.initial : Collector :=
  { receivers := Vector.replicate 4 none, waitList := [], plan := planAtPowerOn }

/-- Table 3-1, the RESTART column: the plan is kept. -/
def Collector.restarted (c : Collector) : Collector :=
  { Collector.initial with plan := c.plan }

/-! ### Bearer Pool (Table 4-1) -/

/-- The six bearer states (Table 4-2). -/
inductive BearerState where
  | free
  | reserved
  | busy
  | testing
  | blocked
  | down
  deriving DecidableEq, Repr

/-- Why a DOWN bearer is down (Table 4-1). -/
inductive DownReason where
  | highway
  | testFailed
  deriving DecidableEq, Repr

/-- Who holds a BUSY or RESERVED bearer (Table 4-1): a line, or an alert by its number. -/
inductive Holder where
  | line (n : LineNo)
  | alert (number : Nat)
  deriving DecidableEq, Repr

/-- The outcome of the most recent test of a bearer (Table 4-1). -/
inductive TestOutcome where
  | none
  | pass
  | fail
  | aborted
  deriving DecidableEq, Repr

/-- Why a test was aborted (R142). -/
inductive TestCause where
  | giveUp
  | preempt
  | block
  | highway
  deriving DecidableEq, Repr

/-- Bearer event kinds, in the order of Table 4-6. -/
inductive BearerEvent where
  | blocked
  | unblocked
  | testEnded
  deriving DecidableEq, Repr

/-- The bearer record (Table 4-1). The bearer's number is its index in `Pool.bearers`. -/
structure BearerRecord where
  state : BearerState
  downReason : Option DownReason
  holder : Option Holder
  blockPending : Bool
  outcome : TestOutcome
  abortCause : Option TestCause
  errorCount : Nat
  locked : Bool
  events : List BearerEvent
  deriving DecidableEq, Repr

/-- Table 4-1, the power-on column: DOWN(HIGHWAY). -/
def BearerRecord.initial : BearerRecord :=
  { state := .down, downReason := some .highway, holder := none, blockPending := false, outcome := .none,
    abortCause := none, errorCount := 0, locked := false, events := [] }

/-- Table 4-1, the RESTART column: BLOCKED stays BLOCKED, every other state becomes DOWN(HIGHWAY) (R69). -/
def BearerRecord.restarted (b : BearerRecord) : BearerRecord :=
  if b.state = .blocked then { BearerRecord.initial with state := .blocked, downReason := none }
  else BearerRecord.initial

/-- The classes of the seizure queue (R77). -/
inductive QueueClass where
  | normal
  | priority
  deriving DecidableEq, Repr

/-- The Bearer Pool: the bearer records, the free list and the seizure queue, each head first. -/
structure Pool where
  bearers : Vector BearerRecord 6
  freeList : List BearerNo
  queue : List (LineNo × QueueClass)
  deriving DecidableEq, Repr

/-- R69, power-on. -/
def Pool.initial : Pool :=
  { bearers := Vector.replicate 6 BearerRecord.initial, freeList := [], queue := [] }

/-- R69, RESTART. -/
def Pool.restarted (p : Pool) : Pool :=
  { bearers := p.bearers.map BearerRecord.restarted, freeList := [], queue := [] }

/-! ### Ring Scheduler (Table 5-1) -/

/-- What an ALERT named (Table 5-1). -/
inductive Target where
  | line (n : LineNo)
  | group (g : Fin 32)
  deriving DecidableEq, Repr

/-- The six states of an alert (Table 5-2). -/
inductive AlertState where
  | queued
  | placed
  | answered
  | noAnswer
  | cancelled
  | aborted
  deriving DecidableEq, Repr

/-- Why an alert was aborted (Table 5-1). -/
inductive AlertCause where
  | preempted
  | highway
  deriving DecidableEq, Repr

/-- A ringing burst in progress: the copy of the cadence entry taken at the window start (R128), the segment it is in,
counted from 0, and the time that segment ends. -/
structure Burst where
  segments : List Nat
  segment : Nat
  ends : Nat
  deriving DecidableEq, Repr

/-- The alert record (Table 5-1) with its ring timeout (expiry time, `none` when stopped) and its burst. The table
position is its index in `Ring.alerts`; its acceptance and placement orders are its places in `Ring.accepted` and
`Ring.placed`. -/
structure AlertRecord where
  number : Nat
  target : Target
  members : List LineNo
  dropped : List LineNo
  cadence : CadenceNo
  timeout : Nat
  state : AlertState
  phase : Option PhaseNo
  bearer : BearerNo
  answering : Option LineNo
  cause : Option AlertCause
  load : Nat
  reportPending : Bool
  expires : Option Nat
  burst : Option Burst
  deriving DecidableEq, Repr

/-- The Ring Scheduler: the alert table, the recorded alerts in acceptance order, the PLACED alerts in placement order,
the ring cycle clock with whether the window start at its present value has been taken, and the ring capacity. -/
structure Ring where
  alerts : Vector (Option AlertRecord) 8
  accepted : List AlertPos
  placed : List AlertPos
  clock : Nat
  windowTaken : Bool
  capacity : Nat
  deriving DecidableEq, Repr

/-- R88, R93: power-on. -/
def Ring.initial : Ring :=
  { alerts := Vector.replicate 8 none, accepted := [], placed := [], clock := 0, windowTaken := false, capacity := 6 }

/-- R93, R108: RESTART keeps the ring capacity. -/
def Ring.restarted (r : Ring) : Ring :=
  { Ring.initial with capacity := r.capacity }

/-! ### Power Account (Table 6-1) -/

/-- The Power Account: the budget, the feed roll, the feed wait list and the overcommit flag. The base cost and the
committed total are computed (R111). -/
structure Power where
  budget : Nat
  roll : List LineNo
  waitList : List LineNo
  overcommit : Bool
  deriving DecidableEq, Repr

/-- Table 6-1, the power-on column. -/
def Power.initial : Power :=
  { budget := 80, roll := [], waitList := [], overcommit := false }

/-- Table 6-1, the RESTART column: the budget is kept, the flag is set if it is below the base of 20 PU (R110). -/
def Power.restarted (p : Power) : Power :=
  { budget := p.budget, roll := [], waitList := [], overcommit := decide (p.budget < Config.activePU) }

/-! ### Tone Source (R126, R129) -/

/-- The position of a RUNNING tone source: the segment it is in, counted from 0, and when that segment began. -/
structure TonePosition where
  segment : Nat
  began : Nat
  deriving DecidableEq, Repr

/-- The Tone Source: the cadence table (segment durations in ms) and the four sources, IDLE being `none`. -/
structure Tones where
  cadences : Vector (List Nat) 8
  dial : Option TonePosition
  busy : Option TonePosition
  congestion : Option TonePosition
  howler : Option TonePosition
  deriving DecidableEq, Repr

/-- Table 7-1: the cadence table at power-on. -/
def cadencesAtPowerOn : Vector (List Nat) 8 :=
  #v[[2000], [500, 500], [250, 250], [2000], [1000], [400, 200, 400], [2000], [250, 250, 250]]

/-- R126, R129: power-on. -/
def Tones.initial : Tones :=
  { cadences := cadencesAtPowerOn, dial := none, busy := none, congestion := none, howler := none }

/-- R129, R135: RESTART makes every source IDLE and keeps the cadence table. -/
def Tones.restarted (t : Tones) : Tones :=
  { Tones.initial with cadences := t.cadences }

/-! ### Bearer Tester (Table 8-1) -/

/-- The sequence checker's own memory (R139): the last 15 bits (bit 0 the newest), how many of them have been filled
since HUNTING was entered, the run of correct predictions, and the last 64 comparisons made while LOCKED, newest
first, `true` a mismatch. -/
structure Checker where
  register : BitVec 15
  filled : Nat
  run : Nat
  window : List Bool
  deriving DecidableEq, Repr

/-- A RUNNING test context (Table 8-1), with the generator (R138), the time of acceptance, the number of injections
made, whether the next outgoing bit is to be inverted, and the bit last sent, `none` before the first. The test time is
the present time less the time of acceptance. `locked` is the checker field: LOCKED, else HUNTING. -/
structure TestContext where
  bearer : BearerNo
  duration : Nat
  threshold : Nat
  inject : Bool
  yields : Bool
  began : Nat
  locked : Bool
  errorCount : Nat
  generator : BitVec 15
  invertNext : Bool
  sentBit : Option Bool
  injections : Nat
  checker : Checker
  deriving DecidableEq, Repr

/-- The checker as it enters HUNTING (R139). DESIGN CHOICE (log entry 14): its window is empty, so bits compared before a
lost lock do not count among the 64 compared bits of the next one. -/
def Checker.hunting : Checker :=
  { register := 0, filled := 0, run := 0, window := [] }

/-! ### Highway Monitor (Table 9-1) -/

/-- The highway state (Table 9-1). -/
inductive HighwayState where
  | up
  | hit
  | down
  deriving DecidableEq, Repr

/-- The Highway Monitor: the highway state, the grace and restore timers (expiry times, `none` when stopped), and the
moment the next loss is measured from, `none` when none is (R147, R152). -/
structure Highway where
  state : HighwayState
  grace : Option Nat
  restore : Option Nat
  lossFrom : Option Nat
  deriving DecidableEq, Repr

/-- Table 9-1: power-on and RESTART. -/
def Highway.initial : Highway :=
  { state := .down, grace := none, restore := none, lossFrom := none }

/-! ### Supervisory Line Interface (Table 11-1) -/

/-- The receive hunter (R165). COLLECTING holds the length and the octets received after it, in order. -/
inductive Hunter where
  | hunting
  | awaitLength
  | collecting (length : Octet) (held : List Octet)
  deriving DecidableEq, Repr

/-- The type and the body of a frame (R164). -/
structure Frame where
  type : Octet
  body : List Octet
  deriving DecidableEq, Repr

/-- A frame in transmission and the time its last octet ends (R163, R168). -/
structure Sending where
  frame : Frame
  ends : Nat
  deriving DecidableEq, Repr

/-- Part event kinds, in the order of Table 11-5. -/
inductive PartEvent where
  | started
  | woke
  | overrun
  | overcommitSet
  | overcommitClear
  | controllerLost
  | controllerBack
  | highwayHit
  | highwayDown
  | highwayUp
  deriving DecidableEq, Repr

/-- The controller state (R153). -/
inductive Controller where
  | present
  | lost
  deriving DecidableEq, Repr

/-- The SLI (Table 11-1): the hunter with the time the last octet was received, the reply queue (oldest first), the
transmitter (IDLE is `none`), the line report position, the overrun flag, the pending part events, the controller
state and the supervision timer (expiry time, `none` when stopped). -/
structure Sli where
  hunter : Hunter
  lastOctet : Nat
  replies : List Frame
  sending : Option Sending
  reportPosition : LineNo
  overrun : Bool
  events : List PartEvent
  controller : Controller
  supervision : Option Nat
  deriving DecidableEq, Repr

/-- Table 11-1, the power-on column. -/
def Sli.initial : Sli :=
  { hunter := .hunting, lastOctet := 0, replies := [], sending := none, reportPosition := 23, overrun := false,
    events := [.started], controller := .lost, supervision := none }

/-! ### Mode Control (Table 10-1) -/

/-- The mode (Table 10-1). -/
inductive Mode where
  | active
  | conserve
  deriving DecidableEq, Repr

/-- What ended the most recent conserve period (Table 10-1). -/
inductive WakeCause where
  | none
  | line (n : LineNo)
  | controller
  | timer
  deriving DecidableEq, Repr

/-- Mode Control: the mode, the wake cause and the limit timer (expiry time, `none` when stopped). -/
structure ModeControl where
  mode : Mode
  wakeCause : WakeCause
  limit : Option Nat
  deriving DecidableEq, Repr

/-- Table 10-1: power-on and RESTART. -/
def ModeControl.initial : ModeControl :=
  { mode := .active, wakeCause := .none, limit := none }

/-! ### Timer periods and straps -/

/-- The six values SET_TIMERS sets: the sample period in ms, the others in seconds. All are kept across RESTART. -/
structure Periods where
  sample : Nat
  firstDigit : Nat
  interdigit : Nat
  waitLimit : Nat
  clearing : Nat
  supervision : Nat
  deriving DecidableEq, Repr

/-- The defaults at power-on (R2, R34, Table 3-1, R153). -/
def Periods.initial : Periods :=
  { sample := 4, firstDigit := 10, interdigit := 5, waitLimit := 10, clearing := 30, supervision := 30 }

/-- The straps as read at power-on (Table 0-1). -/
structure Straps where
  stagger : Bool
  rate : Bool
  unit : Fin 4
  deriving DecidableEq, Repr

/-- R15: the energize list after power-on and RESTART, as the STAGGER strap decides. -/
def Straps.energizeList (p : Straps) : List LineNo :=
  if p.stagger then [] else allLines

/-- What the loop detectors show at power-on: every loop open. DESIGN CHOICE (log entry 5): the loops are outside. -/
def loopsAtPowerOn : Vector Hook 24 :=
  Vector.replicate 24 .on

/-- R15, R16: the scanner after power-on or RESTART at time `now`; sample instants go on from `lastSample`, and the loop
detectors show what they did. No line is energized, so none is to be sampled, and no signal is on its way. -/
def Scanner.started (p : Straps) (now lastSample : Nat) (loops : Vector Hook 24) : Scanner :=
  { records := Vector.replicate 24 ScanRecord.initial
    energizeList := p.energizeList
    groupTimer := if p.energizeList = [] then none else some (now + Config.groupMs)
    lastSample := lastSample
    unsampled := []
    loops := loops
    handed := [] }

end Sys2Proof.Machine
end

