-- ==== Sys2Proof/Machine/State.lean ====
section
/-! DEFINITION. The state of the NK2406 as plain data: one field per functional block of Table 0-2, the timer periods,
the straps, the queue of waiting commands, and the model's own millisecond clock and free-value counter. `State.reset`
is the part right after power-on (R172). -/

namespace Sys2Proof.Machine

structure State where
  /-- The commands that wait, first in, first out. -/
  pending : List Instr
  /-- The model's own: the time in milliseconds since power-on. -/
  now : Nat
  /-- The model's own: how many free values have been taken (log entry 5). -/
  fresh : Nat
  straps : Straps
  periods : Periods
  scanner : Scanner
  lines : Vector LineRecord 24
  collector : Collector
  pool : Pool
  ring : Ring
  power : Power
  tones : Tones
  /-- The one test context: IDLE is `none` (R136). -/
  test : Option TestContext
  highway : Highway
  sli : Sli
  mode : ModeControl
  deriving DecidableEq, Repr

/-- No command of this part stops it: the manual gives every event and every request an effect or an answer, so there
is no fault. -/
inductive Fault where
  deriving DecidableEq, Repr

/-- Why a command has no meaning. -/
inductive Refusal where
  /-- Raised by `exec` for a row of the opcode table that the model gives no meaning. Safe: the model stops. No arm of
  `exec` raises it. -/
  | notModelled (mnemonic : String)
  deriving DecidableEq, Repr

/-- R172: power-on reads the straps and puts every block in its power-on state; STARTED is the only pending event. -/
def State.atPowerOn (p : Straps) : State :=
  { pending := []
    now := 0
    fresh := 0
    straps := p
    periods := Periods.initial
    scanner := Scanner.started p 0 0 loopsAtPowerOn
    lines := Vector.replicate 24 LineRecord.initial
    collector := Collector.initial
    pool := Pool.initial
    ring := Ring.initial
    power := Power.initial
    tones := Tones.initial
    test := none
    highway := Highway.initial
    sli := Sli.initial
    mode := ModeControl.initial }

/-- The straps of `State.reset`: all 0. DESIGN CHOICE (log entry 4): they are tied at board level. -/
def strapsAtReset : Straps :=
  { stagger := false, rate := false, unit := 0 }

/-- The part right after power-on, with no command waiting. -/
def State.reset : State :=
  State.atPowerOn strapsAtReset

end Sys2Proof.Machine
end

