-- ==== Sys2Proof/Machine/Flags.lean ====
section
/-! DEFINITION. The pending event sets and the bits they are reported as (R25, R86, R170, R173). A set is held as the
list of its kinds in the order of its table, each once, so that equal sets are equal data (log entry 16). -/

namespace Sys2Proof.Machine

/-- Table 2-4, in order. -/
def LineEvent.all : List LineEvent :=
  [.energized, .deenergized, .originated, .denied, .callRequest, .answered, .flash, .released, .cleared, .lockout,
   .dialError, .barred, .restricted, .queueTimeout, .receiverTimeout, .congestion, .feedChanged]

/-- Table 4-6, in order. -/
def BearerEvent.all : List BearerEvent :=
  [.blocked, .unblocked, .testEnded]

/-- Table 11-5, in order. -/
def PartEvent.all : List PartEvent :=
  [.started, .woke, .overrun, .overcommitSet, .overcommitClear, .controllerLost, .controllerBack, .highwayHit,
   .highwayDown, .highwayUp]

/-- Adding a kind to a set; a kind already in it stays there once (R25, R86, R170). -/
def addKind {α : Type} [DecidableEq α] (all : List α) (k : α) (set : List α) : List α :=
  all.filter fun e => decide (e = k ∨ e ∈ set)

/-- R173: the number that carries a set, the kind numbered k being bit k. -/
def setBits {α : Type} [DecidableEq α] : List α → List α → Nat
  | [], _ => 0
  | e :: rest, set => (if e ∈ set then 1 else 0) + 2 * setBits rest set

end Sys2Proof.Machine
end

