-- ==== Sys2Proof/Machine/Ops.lean ====
section
/-! DEFINITION. The named operations over the records of the blocks: reading and changing one line, scanner, bearer,
alert or receiver record, making an event pending, the tone field with its source, and the state timer. -/

namespace Sys2Proof.Machine

/-! ### Records -/

/-- The line record of a line (R21). -/
def State.line (s : State) (n : LineNo) : LineRecord :=
  s.lines[n]

/-- Change one line record. -/
def State.modLine (s : State) (n : LineNo) (f : LineRecord → LineRecord) : State :=
  { s with lines := s.lines.set n.1 (f (s.line n)) n.2 }

/-- The scanner record of a line (R4). -/
def State.scan (s : State) (n : LineNo) : ScanRecord :=
  s.scanner.records[n]

/-- Change one scanner record. -/
def State.modScan (s : State) (n : LineNo) (f : ScanRecord → ScanRecord) : State :=
  { s with scanner := { s.scanner with records := s.scanner.records.set n.1 (f (s.scan n)) n.2 } }

/-- What the loop detector of a line shows (R2). -/
def State.loop (s : State) (n : LineNo) : Hook :=
  s.scanner.loops[n]

/-- The loop detector of a line shows a state from now on. -/
def State.setLoop (s : State) (n : LineNo) (h : Hook) : State :=
  { s with scanner := { s.scanner with loops := s.scanner.loops.set n.1 h n.2 } }

/-- A hook signal is handed over and waits to be taken (R14). -/
def State.hand (s : State) (h : Handed) : State :=
  { s with scanner := { s.scanner with handed := s.scanner.handed ++ [h] } }

/-- A waiting hook signal is taken out of those handed over. -/
def State.unhand (s : State) (h : Handed) : State :=
  { s with scanner := { s.scanner with handed := s.scanner.handed.erase h } }

/-- The bearer record of a bearer (R66). -/
def State.bearer (s : State) (b : BearerNo) : BearerRecord :=
  s.pool.bearers[b]

/-- Change one bearer record. -/
def State.modBearer (s : State) (b : BearerNo) (f : BearerRecord → BearerRecord) : State :=
  { s with pool := { s.pool with bearers := s.pool.bearers.set b.1 (f (s.bearer b)) b.2 } }

/-- What stands at an alert table position (R88). -/
def State.alertAt (s : State) (p : AlertPos) : Option AlertRecord :=
  s.ring.alerts[p]

/-- Write an alert table position. -/
def State.setAlert (s : State) (p : AlertPos) (a : Option AlertRecord) : State :=
  { s with ring := { s.ring with alerts := s.ring.alerts.set p.1 a p.2 } }

/-- Change the alert record at a position, if there is one. -/
def State.modAlert (s : State) (p : AlertPos) (f : AlertRecord → AlertRecord) : State :=
  s.setAlert p ((s.alertAt p).map f)

/-- The line a receiver is attached to (R46); FREE is `none`. -/
def State.receiverLine (s : State) (r : ReceiverNo) : Option LineNo :=
  s.collector.receivers[r]

/-- Attach a receiver to a line or make it FREE. -/
def State.setReceiver (s : State) (r : ReceiverNo) (n : Option LineNo) : State :=
  { s with collector := { s.collector with receivers := s.collector.receivers.set r.1 n r.2 } }

/-! ### Pending events -/

/-- R25: make a line event pending. -/
def State.addLineEvent (s : State) (n : LineNo) (k : LineEvent) : State :=
  s.modLine n fun r => { r with events := addKind LineEvent.all k r.events }

/-- R86: make a bearer event pending. -/
def State.addBearerEvent (s : State) (b : BearerNo) (k : BearerEvent) : State :=
  s.modBearer b fun r => { r with events := addKind BearerEvent.all k r.events }

/-- R170: make a part event pending. -/
def State.addPartEvent (s : State) (k : PartEvent) : State :=
  { s with sli := { s.sli with events := addKind PartEvent.all k s.sli.events } }

/-! ### Tone fields and sources (R39, R130) -/

/-- The position of a tone source, `none` while IDLE. -/
def Tones.source (t : Tones) : ToneKind → Option TonePosition
  | .dial => t.dial
  | .busy => t.busy
  | .congestion => t.congestion
  | .howler => t.howler

/-- Write the position of a tone source. -/
def Tones.setSource (t : Tones) (k : ToneKind) (p : Option TonePosition) : Tones :=
  match k with
  | .dial => { t with dial := p }
  | .busy => { t with busy := p }
  | .congestion => { t with congestion := p }
  | .howler => { t with howler := p }

/-- Whether a tone source has a listener (R129): a line whose tone field names it. -/
def State.hasListener (s : State) (k : ToneKind) : Bool :=
  allLines.any fun n => decide ((s.line n).tone = some k)

/-- R130: a source whose last listener has left becomes IDLE. -/
def State.leaveSource (s : State) (k : ToneKind) : State :=
  if s.hasListener k then s else { s with tones := s.tones.setSource k none }

/-- R130: an IDLE source that gains a listener starts at segment 1; a RUNNING one keeps its position. -/
def State.joinSource (s : State) (k : ToneKind) : State :=
  if (s.tones.source k).isSome then s
  else { s with tones := s.tones.setSource k (some { segment := 0, began := s.now }) }

/-- R39, R130: write a line's tone field; the line leaves its old source and joins the new one in the same action. -/
def State.setTone (s : State) (n : LineNo) (t : Option ToneKind) : State :=
  let old := (s.line n).tone
  if old = t then s
  else
    let s := s.modLine n fun r => { r with tone := t }
    let s := match old with
      | some k => s.leaveSource k
      | none => s
    match t with
    | some k => s.joinSource k
    | none => s

/-! ### State timer (R38) -/

/-- Start the state timer of a line; a running timer of any kind is replaced. -/
def State.startTimer (s : State) (n : LineNo) (k : TimerKind) (ms : Nat) : State :=
  s.modLine n fun r => { r with timer := some { kind := k, expires := s.now + ms } }

/-- Stop the state timer of a line. -/
def State.stopTimer (s : State) (n : LineNo) : State :=
  s.modLine n fun r => { r with timer := none }

/-- Whether a line's state timer runs with the given kind. -/
def LineRecord.timerIs (r : LineRecord) (k : TimerKind) : Bool :=
  match r.timer with
  | some t => decide (t.kind = k)
  | none => false

/-- R38: whether a line's state timer of a kind runs in the state that kind belongs to. A timer that has been stopped does
not expire. -/
def State.timerRuns (s : State) (n : LineNo) (k : TimerKind) (c : CallState) : Bool :=
  decide ((s.line n).callState = c) && (s.line n).timerIs k

/-! ### Classes of state -/

/-- The release states (R12, Table 1-2). -/
def CallState.isRelease : CallState → Bool
  | .dial | .waitBearer | .connected | .clearing | .lockout | .denied => true
  | .deenergized | .idle | .alerted => false

/-- The states on the feed roll (Table 2-2). -/
def CallState.onRoll : CallState → Bool
  | .dial | .waitBearer | .connected | .clearing => true
  | .deenergized | .idle | .denied | .alerted | .lockout => false

/-- An alert is outstanding while QUEUED or PLACED (Table 5-2). -/
def AlertState.outstanding : AlertState → Bool
  | .queued | .placed => true
  | .answered | .noAnswer | .cancelled | .aborted => false

/-! ### Dial pulses and the scanner record -/

/-- R13: when a line leaves DIAL its pulse count becomes 0 and its gap point is removed. -/
def State.dropTrain (s : State) (n : LineNo) : State :=
  s.modScan n fun r => { r with pulseCount := 0, gapPoint := none }

end Sys2Proof.Machine
end

