-- ==== Sys2Proof/Machine/PowerTotal.lean ====
section
/-! DEFINITION. The committed total and the decisions the Power Account takes on it (R111, R114, R120). -/

namespace Sys2Proof.Machine

/-- R111: the cost of a feed class. -/
def Feed.cost : Feed → Nat
  | .full => Config.fullPU
  | .reduced => Config.reducedPU
  | .sense => 0
  | .none => 0

/-- R111: the base cost in the present mode. -/
def State.baseCost (s : State) : Nat :=
  match s.mode.mode with
  | .active => Config.activePU
  | .conserve => Config.conservePU

/-- R111: the feed of the lines on the feed roll. -/
def State.feedCost (s : State) : Nat :=
  (s.power.roll.map fun n => (s.line n).feed.cost).sum

/-- The load an alert table position places on a ring phase (R93). -/
def alertLoad (p : PhaseNo) : Option AlertRecord → Nat
  | some a => if a.state = .placed ∧ a.phase = some p then a.load else 0
  | none => 0

/-- R93: the phase load L_p, the sum of the loads of the alerts PLACED in the phase. -/
def State.phaseLoad (s : State) (p : PhaseNo) : Nat :=
  (allPositions.map fun q => alertLoad p (s.alertAt q)).sum

/-- The largest of three phase loads. -/
def largest (l : PhaseNo → Nat) : Nat :=
  max (l 0) (max (l 1) (l 2))

/-- R111: the ring reserve, 3 PU times the largest phase load. -/
def State.ringReserve (s : State) : Nat :=
  Config.ringReservePU * largest s.phaseLoad

/-- Whether a position holds an outstanding alert. -/
def isOutstanding : Option AlertRecord → Bool
  | some a => a.state.outstanding
  | none => false

/-- R111: the answer reserve, 6 PU for each outstanding alert. -/
def State.answerReserve (s : State) : Nat :=
  Config.answerReservePU * (allPositions.filter fun p => isOutstanding (s.alertAt p)).length

/-- R111: the committed total. -/
def State.committed (s : State) : Nat :=
  s.baseCost + s.feedCost + s.ringReserve + s.answerReserve

/-- R114: admission. FULL if the ceiling is FULL and the total plus 9 is within the budget, else REDUCED if the total
plus 6 is, else not admitted. -/
def State.admission (s : State) (n : LineNo) : Option Feed :=
  if (s.line n).ceiling = .full ∧ s.committed + Config.fullPU ≤ s.power.budget then some .full
  else if s.committed + Config.reducedPU ≤ s.power.budget then some .reduced
  else none

/-- R120: the overcommit flag follows the total against the budget; a change of it makes a part event pending. -/
def State.examine (s : State) : State :=
  let exceeds := decide (s.power.budget < s.committed)
  if exceeds = s.power.overcommit then s
  else
    { s with power := { s.power with overcommit := exceeds } }.addPartEvent
      (if exceeds then .overcommitSet else .overcommitClear)

/-- A line joins the tail of the feed roll with a class (R112). -/
def State.joinRoll (s : State) (n : LineNo) (c : Feed) : State :=
  { s with power := { s.power with roll := s.power.roll ++ [n] } }.modLine n fun r => { r with feed := c }

/-- A line leaves the feed roll and draws SENSE (R23, R112). -/
def State.leaveRoll (s : State) (n : LineNo) : State :=
  { s with power := { s.power with roll := s.power.roll.erase n } }.modLine n fun r => { r with feed := .sense }

end Sys2Proof.Machine
end

