-- ==== Sys2Proof/Machine/Dialling.lean ====
section
/-! DEFINITION. Entering and leaving DIAL, and the tone receivers (R29, R45 to R48, R65), and the return to IDLE (R37),
the entry to CLEARING and the entry to LOCKOUT that every block uses. -/

namespace Sys2Proof.Machine

/-- Dial tone and the first-digit timer (R45, R47). -/
def State.giveDialTone (s : State) (n : LineNo) : State :=
  (s.setTone n (some .dial)).startTimer n .firstDigit (1000 * s.periods.firstDigit)

/-- A receiver becomes ATTACHED to a line, and the line's receiver field names it (R46). -/
def State.attachReceiver (s : State) (r : ReceiverNo) (n : LineNo) : State :=
  (s.setReceiver r (some n)).modLine n fun l => { l with receiver := some r }

/-- The lowest-numbered FREE receiver (R45). -/
def State.freeReceiver (s : State) : Option ReceiverNo :=
  allReceivers.find? fun r => decide (s.receiverLine r = none)

/-- R45: a line entering DIAL is treated by its signalling field. -/
def State.enterDial (s : State) (n : LineNo) : State :=
  match (s.line n).signalling with
  | .pulse => s.giveDialTone n
  | .tone =>
    match s.freeReceiver with
    | some r => (s.attachReceiver r n).giveDialTone n
    | none =>
      { s with collector := { s.collector with waitList := s.collector.waitList ++ [n] } }.startTimer n .wait
        (1000 * s.periods.waitLimit)

/-- R27, R28: an admitted line joins the roll and enters DIAL. -/
def State.admitLine (s : State) (n : LineNo) (c : Feed) : State :=
  let s := (s.joinRoll n c).modLine n fun r =>
    { r with callState := .dial, digits := [], planMatch := none, callNumber := r.callNumber + 1 }
  (s.addLineEvent n .originated).enterDial n

/-- R47: a released receiver passes to the head of the receiver wait list, or becomes FREE. A head that has dialled
keeps its interdigit timer and gets no dial tone. -/
def State.handOnReceiver (s : State) (r : ReceiverNo) : State :=
  match s.collector.waitList with
  | [] => s.setReceiver r none
  | h :: rest =>
    let s := { s with collector := { s.collector with waitList := rest } }.attachReceiver r h
    if (s.line h).digits = [] then s.giveDialTone h else s

/-- R29, R47, R48, R65: a line leaving DIAL gives up its receiver or its place in the receiver wait list, its state
timer stops and its pulse train is discarded (R13). -/
def State.leaveDial (s : State) (n : LineNo) : State :=
  let s := (s.stopTimer n).dropTrain n
  match (s.line n).receiver with
  | some r => (s.modLine n fun l => { l with receiver := none }).handOnReceiver r
  | none => { s with collector := { s.collector with waitList := s.collector.waitList.erase n } }

/-- R37: the line record of a line that returns to IDLE, but for its tone and its feed. -/
def LineRecord.idled (r : LineRecord) : LineRecord :=
  { r with callState := .idle, bearer := none, alert := none, receiver := none, timer := none, digits := [],
           planMatch := none }

/-- R37: a line returns to IDLE. -/
def State.toIdle (s : State) (n : LineNo) : State :=
  ((s.setTone n none).leaveRoll n).modLine n LineRecord.idled

/-- A line enters CLEARING with a tone; its clearing timer starts and an event is made pending (R32, R33, R34). Its
feed stays on the roll. -/
def State.toClearing (s : State) (n : LineNo) (t : Option ToneKind) (k : LineEvent) : State :=
  let s := (s.modLine n fun r => { r with callState := .clearing, bearer := none }).setTone n t
  (s.startTimer n .clearing (1000 * s.periods.clearing)).addLineEvent n k

/-- R35: a line enters LOCKOUT. -/
def State.toLockout (s : State) (n : LineNo) : State :=
  let s := ((s.leaveRoll n).modLine n fun r => { r with callState := .lockout }).setTone n (some .howler)
  (s.startTimer n .howler Config.howlerMs).addLineEvent n .lockout

end Sys2Proof.Machine
end

