-- ==== Sys2Proof/Machine/RingScheduler.lean ====
section
/-! DEFINITION. The ring queue, placement, unplacing and the ending of alerts (R88, R91, R95 to R100, R105). -/

namespace Sys2Proof.Machine

/-- Whether a position holds an alert in a given state. -/
def inState (st : AlertState) : Option AlertRecord → Bool
  | some a => decide (a.state = st)
  | none => false

/-- R95: the ring queue, the QUEUED alerts in acceptance order. -/
def State.ringQueue (s : State) : List AlertPos :=
  s.ring.accepted.filter fun p => inState .queued (s.alertAt p)

/-- The position of the record with an alert number (R88: no two records have the same number). -/
def State.findAlert (s : State) (number : Nat) : Option AlertPos :=
  allPositions.find? fun p => match s.alertAt p with
    | some a => decide (a.number = number)
    | none => false

/-- R93: the clock value at which a phase's window starts. -/
def windowStart (p : PhaseNo) : Nat :=
  Config.ringWindowMs * p.1

/-- R96: the time to the next window start of a phase, (2000p minus the clock) modulo 6000. -/
def State.untilWindow (s : State) (p : PhaseNo) : Nat :=
  (windowStart p + Config.ringCycleMs - s.ring.clock % Config.ringCycleMs) % Config.ringCycleMs

/-- The committed total recomputed with one phase load raised (R96). -/
def State.committedWith (s : State) (p : PhaseNo) (load : Nat) : Nat :=
  s.baseCost + s.feedCost
    + Config.ringReservePU * largest (fun q => if q = p then s.phaseLoad q + load else s.phaseLoad q)
    + s.answerReserve

/-- R96: a phase qualifies on capacity and on power. -/
def State.qualifies (s : State) (load : Nat) (p : PhaseNo) : Bool :=
  decide (s.phaseLoad p + load ≤ s.ring.capacity ∧ s.committedWith p load ≤ s.power.budget)

/-- The phase of a list whose next window start comes soonest (R96). -/
def State.soonest (s : State) : List PhaseNo → Option PhaseNo
  | [] => none
  | p :: rest =>
    match s.soonest rest with
    | none => some p
    | some q => if s.untilWindow p ≤ s.untilWindow q then some p else some q

/-- R96: the phase a placement try finds for a load. -/
def State.phaseFor (s : State) (load : Nat) : Option PhaseNo :=
  s.soonest (allPhases.filter (s.qualifies load))

/-- R94, R128: the burst that begins at time `now` with a copy of a cadence entry. -/
def startBurst (segments : List Nat) (now : Nat) : Option Burst :=
  match segments with
  | [] => none
  | d :: _ => some { segments := segments, segment := 0, ends := now + d }

/-- R96: placement of the alert at a position in a phase. It rings at once if the phase's window starts now. -/
def State.place (s : State) (pos : AlertPos) (p : PhaseNo) : State :=
  let s1 := s.modAlert pos fun a =>
    { a with state := .placed, phase := some p, reportPending := true,
             burst := if s.untilWindow p = 0 then startBurst s.tones.cadences[a.cadence] s.now else none }
  { s1 with ring := { s1.ring with placed := s1.ring.placed.erase pos ++ [pos] } }

/-- R97: placement tries along the ring queue, stopping at the first head that cannot be placed. -/
def State.placeAlong (s : State) : List AlertPos → State
  | [] => s
  | pos :: rest =>
    match s.alertAt pos with
    | none => s
    | some a =>
      match s.phaseFor a.load with
      | none => s
      | some p => (s.place pos p).placeAlong rest

/-- R97: the placement try, repeated while it succeeds. -/
def State.tryPlacement (s : State) : State :=
  s.placeAlong s.ringQueue

/-- R98: unplacing returns the alert at a position to the ring queue; its burst stops at once. -/
def State.unplace (s : State) (pos : AlertPos) : State :=
  let s1 := s.modAlert pos fun a =>
    { a with state := .queued, phase := none, burst := none, reportPending := true }
  { s1 with ring := { s1.ring with placed := s1.ring.placed.erase pos } }

/-- Whether a position's alert is PLACED in a phase. -/
def placedIn (p : PhaseNo) : Option AlertRecord → Bool
  | some a => decide (a.state = .placed ∧ a.phase = some p)
  | none => false

/-- R99: unplace a phase's alerts, in the order given, until its load does not exceed the ring capacity. -/
def State.fitPhase (s : State) (p : PhaseNo) : List AlertPos → State
  | [] => s
  | pos :: rest =>
    if s.phaseLoad p ≤ s.ring.capacity then s
    else if placedIn p (s.alertAt pos) then (s.unplace pos).fitPhase p rest
    else s.fitPhase p rest

/-- R99: bring every phase within the ring capacity, the most recently placed alert first. -/
def State.fitPhases (s : State) : State :=
  allPhases.foldl (fun t p => t.fitPhase p t.ring.placed.reverse) s

/-- R101.5, R105.3: a member of an ended alert loses its alert field and returns to IDLE. Only a line in ALERTED is a
member to return (log entry 24). -/
def State.returnMember (s : State) (n : LineNo) : State :=
  if (s.line n).callState = .alerted then s.toIdle n else s

/-- Return several members in line order. -/
def State.returnMembers (s : State) (ns : List LineNo) : State :=
  ns.foldl State.returnMember s

/-- The alert record of an alert that leaves QUEUED or PLACED (R101.1, R101.6, R105.1, R105.5): phase, burst and ring
timeout end, the final state is written and the report made pending. -/
def AlertRecord.ended (a : AlertRecord) (st : AlertState) (cause : Option AlertCause) (answering : Option LineNo) :
    AlertRecord :=
  { a with state := st, phase := none, burst := none, expires := none, cause := cause, answering := answering,
           reportPending := true }

/-- Write the final state of the alert at a position and take it out of the placement order. -/
def State.endRecord (s : State) (pos : AlertPos) (st : AlertState) (cause : Option AlertCause)
    (answering : Option LineNo) : State :=
  let s1 := s.modAlert pos fun a => a.ended st cause answering
  { s1 with ring := { s1.ring with placed := s1.ring.placed.erase pos } }

/-- R105, steps 1 to 3 and 5: an outstanding alert ends without an answer. The bearer is disposed of by the caller
(step 4), and the account re-evaluates after the whole action. -/
def State.endUnanswered (s : State) (pos : AlertPos) (st : AlertState) (cause : Option AlertCause) : State :=
  match s.alertAt pos with
  | none => s
  | some a => (s.endRecord pos st cause none).returnMembers a.members

/-- R103: whether the ring timeout of the alert at a position runs; it runs only while the alert is outstanding. -/
def State.ringTimeoutRuns (s : State) (pos : AlertPos) : Bool :=
  match s.alertAt pos with
  | some a => a.state.outstanding && a.expires.isSome
  | none => false

/-- The outstanding alert latest in acceptance order (R75, R106). -/
def State.newestOutstanding (s : State) : Option AlertPos :=
  s.ring.accepted.reverse.find? fun p => isOutstanding (s.alertAt p)

end Sys2Proof.Machine
end

