-- ==== Sys2Proof/Machine/Reevaluation.lean ====
section
/-! DEFINITION. Re-evaluation and shedding (R116, R117, R119) and the closing of an action that may have lowered the
committed total (R116, R120). -/

namespace Sys2Proof.Machine

/-- R116, step 1: admit lines along the feed wait list while the total plus 6 is within the budget. -/
def State.admitAlong (s : State) : List LineNo → State
  | [] => s
  | n :: rest =>
    match s.admission n with
    | none => s
    | some c =>
      ({ s with power := { s.power with waitList := s.power.waitList.erase n } }.admitLine n c).admitAlong rest

/-- R40, R117: the account changes the feed class of a line that keeps its call state. -/
def State.changeFeed (s : State) (n : LineNo) (c : Feed) : State :=
  (s.modLine n fun r => { r with feed := c }).addLineEvent n .feedChanged

/-- R117: upgrade along the feed roll, from the head, while the total plus 3 is within the budget. -/
def State.upgradeAlong (s : State) : List LineNo → State
  | [] => s
  | n :: rest =>
    if (s.line n).feed = .reduced ∧ (s.line n).ceiling = .full
        ∧ s.committed + (Config.fullPU - Config.reducedPU) ≤ s.power.budget then
      (s.changeFeed n .full).upgradeAlong rest
    else s.upgradeAlong rest

/-- R116: re-evaluation, its three steps in order. -/
def State.reevaluate (s : State) : State :=
  let s := s.admitAlong s.power.waitList
  let s := s.tryPlacement
  s.upgradeAlong s.power.roll

/-- R119, step 1: unplace along the placement order, latest first, while the total exceeds the budget. -/
def State.shedRinging (s : State) : List AlertPos → State
  | [] => s
  | pos :: rest =>
    if s.committed ≤ s.power.budget then s
    else if inState .placed (s.alertAt pos) then (s.unplace pos).shedRinging rest
    else s.shedRinging rest

/-- R119, step 2: downgrade FULL lines, from the tail of the roll, while the total exceeds the budget. -/
def State.shedFeed (s : State) : List LineNo → State
  | [] => s
  | n :: rest =>
    if s.committed ≤ s.power.budget then s
    else if (s.line n).feed = .full then (s.changeFeed n .reduced).shedFeed rest
    else s.shedFeed rest

/-- R119: shedding. Its third step, tolerating what is left, is the examination of the flag that follows. -/
def State.shed (s : State) : State :=
  let s := s.shedRinging s.ring.placed.reverse
  s.shedFeed s.power.roll.reverse

/-- R116, R120: close an action that began with the total `before`: re-evaluate if the total fell, then examine the
overcommit flag. -/
def State.settle (before : Nat) (s : State) : State :=
  (if s.committed < before then s.reevaluate else s).examine

/-- An action that touches terms of the committed total, closed by `settle`. -/
def State.accounted (s : State) (f : State → State) : State :=
  (f s).settle s.committed

end Sys2Proof.Machine
end

