-- ==== Sys2Proof/Machine/BearerPool.lean ====
section
/-! DEFINITION. The Bearer Pool's operations: the entry rule, the supply of a completing line, the bearer for an alert,
the seizure queue and the abort of a test (R71 to R81, R142). -/

namespace Sys2Proof.Machine

/-- The last-test fields as an ended test writes them (R141, R142). -/
def BearerRecord.withResult (b : BearerRecord) (o : TestOutcome) (c : Option TestCause) (t : TestContext) :
    BearerRecord :=
  { b with outcome := o, abortCause := c, errorCount := t.errorCount, locked := t.locked }

/-- R142: the running test is aborted; its result is written, TEST_ENDED is made pending and the context is IDLE. The
bearer's new state is written by the caller. -/
def State.abortTest (s : State) (c : TestCause) : State :=
  match s.test with
  | none => s
  | some t =>
    ({ s with test := none }.modBearer t.bearer fun b => b.withResult .aborted (some c) t).addBearerEvent t.bearer
      .testEnded

/-- A bearer becomes BUSY with a line, which becomes CONNECTED on it (R68); the line's state timer stops. The block
pending flag is kept. -/
def State.hold (s : State) (n : LineNo) (b : BearerNo) : State :=
  (s.modBearer b fun r => { r with state := .busy, downReason := none, holder := some (.line n) }).modLine n fun r =>
    { r with callState := .connected, bearer := some b, timer := none }

/-- R30, R71, R72: a grant; CALL_REQUEST is made pending. -/
def State.grant (s : State) (n : LineNo) (b : BearerNo) : State :=
  (s.hold n b).addLineEvent n .callRequest

/-- R71: the entry rule. A pending block takes the bearer first, then the head of the seizure queue, then the free
list. -/
def State.enterFree (s : State) (b : BearerNo) : State :=
  if (s.bearer b).blockPending then
    (s.modBearer b fun r =>
      { r with state := .blocked, downReason := none, holder := none, blockPending := false }).addBearerEvent b .blocked
  else
    match s.pool.queue with
    | (n, _) :: rest => { s with pool := { s.pool with queue := rest } }.grant n b
    | [] =>
      { s with pool := { s.pool with freeList := s.pool.freeList ++ [b] } }.modBearer b fun r =>
        { r with state := .free, downReason := none, holder := none }

/-- R77, R78: a line joins the seizure queue, a PRIORITY line ahead of every NORMAL one. -/
def enqueue : List (LineNo × QueueClass) → LineNo → QueueClass → List (LineNo × QueueClass)
  | [], n, c => [(n, c)]
  | (m, d) :: rest, n, c =>
    if c = .priority ∧ d = .normal then (n, c) :: (m, d) :: rest else (m, d) :: enqueue rest n c

/-- R78: source 5 of R72; the line goes to WAIT_BEARER and its wait timer starts. -/
def State.joinQueue (s : State) (n : LineNo) (c : QueueClass) : State :=
  ({ s with pool := { s.pool with queue := enqueue s.pool.queue n c } }.modLine n fun r =>
    { r with callState := .waitBearer }).startTimer n .wait (1000 * s.periods.waitLimit)

/-- R79: a line leaves the seizure queue from any position. -/
def State.leaveQueue (s : State) (n : LineNo) : State :=
  { s with pool := { s.pool with queue := s.pool.queue.filter fun e => decide (e.1 ≠ n) } }

/-- R75, R106: source 4 of R72, the RESERVED bearer of the newest outstanding alert, which is aborted. -/
def State.preemptAlert (s : State) (n : LineNo) : State :=
  match s.newestOutstanding with
  | none => s.joinQueue n .priority
  | some pos =>
    match s.alertAt pos with
    | none => s.joinQueue n .priority
    | some a => (s.endUnanswered pos .aborted (some .preempted)).grant n a.bearer

/-- R72: the sources of a bearer for a completing line, in the order of Table 4-3. -/
def State.supply (s : State) (n : LineNo) (c : QueueClass) : State :=
  match s.pool.freeList with
  | b :: rest => { s with pool := { s.pool with freeList := rest } }.grant n b
  | [] =>
    match s.test with
    | some t =>
      if t.yields then (s.abortTest .giveUp).grant n t.bearer
      else
        match c with
        | .priority => (s.abortTest .preempt).grant n t.bearer
        | .normal => s.joinQueue n .normal
    | none =>
      match c with
      | .priority => s.preemptAlert n
      | .normal => s.joinQueue n .normal

/-- R80: the bearer an ALERT reserves, with the state in which it has been taken from its source. -/
def State.bearerForAlert (s : State) : Option (BearerNo × State) :=
  match s.pool.freeList with
  | b :: rest => some (b, { s with pool := { s.pool with freeList := rest } })
  | [] =>
    match s.test with
    | some t => if t.yields then some (t.bearer, s.abortTest .giveUp) else none
    | none => none

/-- R81: the bearer of a line is handed back and passes through the entry rule. -/
def State.handBack (s : State) (n : LineNo) : State :=
  match (s.line n).bearer with
  | none => s
  | some b => (s.modLine n fun r => { r with bearer := none }).enterFree b

/-- R105.4, Table 5-4: the bearer of an alert that ended NO_ANSWER or CANCELLED. -/
def State.endReturning (s : State) (pos : AlertPos) (st : AlertState) : State :=
  match s.alertAt pos with
  | none => s
  | some a => (s.endUnanswered pos st none).enterFree a.bearer

end Sys2Proof.Machine
end

