-- ==== Sys2Proof/Machine/Calls.lean ====
section
/-! DEFINITION. Call Control: origination, release, flash, answer and congestion clearing (R27 to R37, R101, R102). -/

namespace Sys2Proof.Machine

/-- R27: OFF_HOOK in IDLE asks for feed; the line goes to DIAL or to DENIED. -/
def State.originate (s : State) (n : LineNo) : State :=
  (match s.admission n with
   | some c => s.admitLine n c
   | none =>
     ({ s with power := { s.power with waitList := s.power.waitList ++ [n] } }.modLine n fun r =>
       { r with callState := .denied }).addLineEvent n .denied).examine

/-- R28, R29, R30, R31, R34, R35, R37: RELEASE by the line's call state; RELEASED is made pending. -/
def State.releaseCall (s : State) (n : LineNo) : State :=
  match (s.line n).callState with
  | .denied =>
    ({ s with power := { s.power with waitList := s.power.waitList.erase n } }.toIdle n).addLineEvent n .released
  | .dial => ((s.leaveDial n).toIdle n).addLineEvent n .released
  | .waitBearer => ((s.leaveQueue n).toIdle n).addLineEvent n .released
  | .connected => ((s.handBack n).toIdle n).addLineEvent n .released
  | .clearing => (s.toIdle n).addLineEvent n .released
  | .lockout => (s.toIdle n).addLineEvent n .released
  | .deenergized => s
  | .idle => s
  | .alerted => s

/-- R12: RELEASE is issued; the scanner removes the release and gap points and the pulse count. -/
def State.release (s : State) (n : LineNo) : State :=
  ((s.dropTrain n).modScan n fun r => { r with releasePoint := none }).accounted fun t => t.releaseCall n

/-- R31: FLASH in CONNECTED. -/
def State.flash (s : State) (n : LineNo) : State :=
  (s.modLine n fun r => { r with flashCount := min 15 (r.flashCount + 1) }).addLineEvent n .flash

/-- R101, steps 1 to 3: the alert leaves its phase or the queue, its answer reserve becomes REDUCED feed for the line,
and FULL is given if the ceiling and the total allow. -/
def State.answerFeed (s : State) (pos : AlertPos) (n : LineNo) : State :=
  let s := (s.endRecord pos .answered none (some n)).joinRoll n .reduced
  if (s.line n).ceiling = .full ∧ s.committed + (Config.fullPU - Config.reducedPU) ≤ s.power.budget then
    s.modLine n fun r => { r with feed := .full }
  else s

/-- R101: the answer is taken. If the total fell re-evaluation follows, else the placement try is made at once (R97). -/
def State.answer (s : State) (pos : AlertPos) (a : AlertRecord) (n : LineNo) : State :=
  let before := s.committed
  let s := (s.answerFeed pos n).hold n a.bearer
  let s := s.modLine n fun r => { r with alert := none, callNumber := r.callNumber + 1 }
  let s := (s.addLineEvent n .answered).returnMembers (a.members.filter fun m => decide (m ≠ n))
  (if s.committed < before then s.reevaluate else s.tryPlacement).examine

/-- R101: the ANSWER of a line taken by the outstanding alert under a number that has the line as a member; absent where
there is none. -/
def State.answerTaken (s : State) (n : LineNo) (number : Nat) : Option State :=
  match s.findAlert number with
  | none => none
  | some pos =>
    match s.alertAt pos with
    | none => none
    | some a => if a.state.outstanding ∧ n ∈ a.members then some (s.answer pos a n) else none

/-- R6, R37: an OFF transition taken by the call state in which it finds the line: OFF_HOOK in IDLE, ANSWER for the alert of
a line in ALERTED, nothing for a line that is DEENERGIZED. -/
def State.takeOff (s : State) (n : LineNo) : State :=
  match (s.line n).callState with
  | .idle => s.originate n
  | .alerted =>
    match (s.line n).alert with
    | none => s
    | some number =>
      match s.answerTaken n number with
      | none => s
      | some t => t
  | .deenergized | .denied | .dial | .waitBearer | .connected | .clearing | .lockout => s

/-- R36, R101, R102: the ANSWER of a line for the alert under a number. One that is not taken is taken by the state the line
is in by then (R37). -/
def State.takeAnswer (s : State) (n : LineNo) (number : Nat) : State :=
  match s.answerTaken n number with
  | none => s.takeOff n
  | some t => t

/-- R56: MISDIAL ends dialling. -/
def State.misdial (s : State) (n : LineNo) : State :=
  (s.leaveDial n).toClearing n (some .congestion) .dialError

/-- R32, R79: the seizure queue is flushed, each line going to CLEARING with congestion. -/
def State.flushQueue (s : State) : State :=
  s.pool.queue.foldl (fun t e => t.toClearing e.1 (some .congestion) .congestion)
    { s with pool := { s.pool with queue := [] } }

/-- R35, R38: the howler timer expires; the line stays in LOCKOUT, silent. -/
def State.endHowler (s : State) (n : LineNo) : State :=
  (s.stopTimer n).setTone n none

end Sys2Proof.Machine
end

