-- ==== Sys2Proof/Machine/Completion.lean ====
section
/-! DEFINITION. Digits, the numbering plan lookup and completion (R52 to R55, R59 to R64). -/

namespace Sys2Proof.Machine

/-- The entry with the longest prefix of a list of entries (R59). -/
def longestEntry : List PlanEntry → Option PlanEntry
  | [] => none
  | e :: rest =>
    match longestEntry rest with
    | none => some e
    | some f => if f.leading.length ≤ e.leading.length then some e else some f

/-- R59: the lookup of a digit list in a plan. -/
def lookup (plan : List PlanEntry) (digits : List Digit) : Option PlanMatch :=
  (longestEntry (plan.filter fun e => e.leading.isPrefixOf digits)).map fun e => { cls := e.cls, length := e.length }

/-- Whether a plan match has a class. -/
def matchIs (c : PlanClass) : Option PlanMatch → Bool
  | some m => decide (m.cls = c)
  | none => false

/-- R64: the class a line is handed to the Bearer Pool with. -/
def queueClass (m : Option PlanMatch) : QueueClass :=
  if matchIs .priority m then .priority else .normal

/-- R63: whether a completing number meets congestion. -/
def State.congested (s : State) : Bool :=
  decide (s.highway.state = .down ∨ s.sli.controller = .lost)

/-- R61: the steps of completion. -/
def State.completeNumber (s : State) (n : LineNo) : State :=
  let s := (s.leaveDial n).setTone n none
  let r := s.line n
  if r.restricted ∧ ¬ matchIs .priority r.planMatch then s.toClearing n (some .congestion) .restricted
  else if s.congested then s.toClearing n (some .congestion) .congestion
  else s.supply n (queueClass r.planMatch)

/-- R61, with the account closed: a preempted alert may have lowered the total (R105, R116). -/
def State.complete (s : State) (n : LineNo) : State :=
  s.accounted fun t => t.completeNumber n

/-- R60: a BARRED match ends dialling. -/
def State.bar (s : State) (n : LineNo) : State :=
  (s.leaveDial n).toClearing n (some .congestion) .barred

/-- R54, steps 1 to 4: append a digit, end dial tone, restart the interdigit timer, look the plan up. -/
def State.recordDigit (s : State) (n : LineNo) (d : Digit) : State :=
  let first := decide ((s.line n).digits = [])
  let s := s.modLine n fun r => { r with digits := r.digits ++ [d] }
  let s := if first ∧ (s.line n).tone = some .dial then s.setTone n none else s
  let s := s.startTimer n .interdigit (1000 * s.periods.interdigit)
  s.modLine n fun r => { r with planMatch := lookup s.collector.plan r.digits }

/-- R60: the completion checks after an append, in the order of Table 3-5. -/
def State.checkNumber (s : State) (n : LineNo) : State :=
  let r := s.line n
  if 24 ≤ r.digits.length then s.complete n
  else
    match r.planMatch with
    | none => s
    | some m =>
      if m.cls = .barred then s.bar n
      else if m.length ≤ r.digits.length then s.complete n
      else s

/-- R54: append a digit to a line in DIAL. -/
def State.appendDigit (s : State) (n : LineNo) (d : Digit) : State :=
  (s.recordDigit n d).checkNumber n

/-- R55: a # from the attached receiver. -/
def State.hashKey (s : State) (n : LineNo) : State :=
  if (s.line n).digits = [] then s.misdial n else s.complete n

/-- R53: a digit event of a receiver, taken for the line it is attached to or discarded. -/
def State.takeKey (s : State) (r : ReceiverNo) (k : Key) : State :=
  match s.receiverLine r with
  | none => s
  | some n =>
    if (s.line n).callState = .dial then
      match k with
      | .digit d => s.appendDigit n d
      | .hash => s.hashKey n
    else s

/-- R8: the signal a pulse train closes into, by its pulse count. -/
def trainDigit (count : Nat) : Option Digit :=
  if h : count < 10 then some (.num ⟨count, h⟩) else if count = 10 then some (.num 0) else none

/-- R8: a pulse train closes into a DIGIT or a MISDIAL; the pulse count becomes 0 and the gap point absent. -/
def State.closeTrain (s : State) (n : LineNo) : State :=
  let count := (s.scan n).pulseCount
  let s := s.dropTrain n
  if (s.line n).callState = .dial ∧ 0 < count then
    match trainDigit count with
    | some d => s.appendDigit n d
    | none => s.misdial n
  else s

end Sys2Proof.Machine
end

