-- ==== Sys2Proof/Machine/ModeOps.lean ====
section
/-! DEFINITION. The wake from conserve mode (R155, R160, R161) and the quiet conditions (R157, Table 10-2). -/

namespace Sys2Proof.Machine

/-- R153, R155: start the supervision timer at the supervision time in force, if that is not 0. -/
def State.startSupervision (s : State) : State :=
  { s with sli := { s.sli with
      supervision := if s.periods.supervision = 0 then none else some (s.now + 1000 * s.periods.supervision) } }

/-- R152: the Highway Monitor resumes observation from its held state. -/
def Highway.resume (h : Highway) (now : Nat) : Highway :=
  match h.state with
  | .up => { h with lossFrom := some now }
  | .hit => { h with grace := some (now + Config.graceMs), restore := none }
  | .down => { h with restore := none }

/-- R155: at a wake by a line or by the limit timer the supervision timer restarts if the state is PRESENT. A wake by a
frame leaves it to the frame, which counts next (R166). -/
def State.resumeSupervision (s : State) (c : WakeCause) : State :=
  if c ≠ .controller ∧ s.sli.controller = .present then s.startSupervision else s

/-- R161, steps 1 to 5: the wake. -/
def State.wake (s : State) (c : WakeCause) : State :=
  let s := { s with
    mode := { mode := .active, wakeCause := c, limit := none }
    ring := { s.ring with clock := 0, windowTaken := false }
    highway := s.highway.resume s.now }
  ((s.resumeSupervision c).addPartEvent .woke).reevaluate.examine

/-- R160, R162: a wake cause wakes a part that conserves; a later one finds the mode ACTIVE. -/
def State.wakeIfConserving (s : State) (c : WakeCause) : State :=
  match s.mode.mode with
  | .conserve => s.wake c
  | .active => s

/-- The other blockers of NOT_QUIET, in the bit order of Table 11-4. -/
inductive Blocker where
  | energizing
  | alerts
  | test
  | reports
  | replies
  deriving DecidableEq, Repr

/-- Table 11-4, in bit order. -/
def blockersInOrder : List Blocker :=
  [.energizing, .alerts, .test, .reports, .replies]

/-- Table 10-2: whether a pending event or report flag exists anywhere. -/
def State.reportsPending (s : State) : Bool :=
  decide (s.sli.events ≠ [])
    || allLines.any (fun n => decide ((s.line n).events ≠ []))
    || allBearers.any (fun b => decide ((s.bearer b).events ≠ []))
    || allPositions.any fun p => match s.alertAt p with
      | some a => a.reportPending
      | none => false

/-- Table 10-2: whether a condition other than the lines' fails. -/
def State.blocks (s : State) : Blocker → Bool
  | .energizing => decide (s.scanner.energizeList ≠ [])
  | .alerts => allPositions.any fun p => (s.alertAt p).isSome
  | .test => s.test.isSome
  | .reports => s.reportsPending
  | .replies => decide (s.sli.replies ≠ [])

/-- R157: the blockers, each named once. -/
def State.blockers (s : State) : List Blocker :=
  blockersInOrder.filter s.blocks

/-- R157: a line is not quiet if it is energized and is not both IDLE and on hook. -/
def State.lineQuiet (s : State) (n : LineNo) : Bool :=
  match (s.line n).callState with
  | .deenergized => true
  | .idle => decide ((s.scan n).hook = .on)
  | .denied | .dial | .waitBearer | .alerted | .connected | .clearing | .lockout => false

/-- R157: the lines that are not quiet, in ascending order. -/
def State.unquietLines (s : State) : List LineNo :=
  allLines.filter fun n => !s.lineQuiet n

/-- R123, R135, R152, R155, R158, steps 2 to 7: the entry action. -/
def State.enterConserve (s : State) (limit : Nat) : State :=
  let before := s.committed
  let s := { s with
    mode := { s.mode with mode := .conserve,
                          limit := if limit = 0 then none else some (s.now + 1000 * limit) }
    highway := { s.highway with grace := none, restore := none, lossFrom := none }
    sli := { s.sli with supervision := none } }
  s.settle before

end Sys2Proof.Machine
end

