-- ==== Sys2Proof/Machine/ScannerOps.lean ====
section
/-! DEFINITION. The Line Scanner: sampling and debounce, the classification of transitions, the release and gap
decisions (R2 to R14), and the energizing of lines (R16, R17). -/

namespace Sys2Proof.Machine

/-- R2: the sample period in force. -/
def State.samplePeriod (s : State) : Nat :=
  match s.mode.mode with
  | .active => s.periods.sample
  | .conserve => Config.conserveSampleMs

/-- R2: when the next sample instant falls, one period in force after the last one taken. -/
def State.nextSample (s : State) : Nat :=
  s.scanner.lastSample + s.samplePeriod

/-- R3: the timestamp of a transition declared now, the run start. A transition whose run the scanner has not recorded is
dated two sample periods before it is declared, as R3 says every transition is (log entry 7). -/
def State.transitionTime (s : State) (n : LineNo) : Nat :=
  match (s.scan n).runStart with
  | some t => t
  | none => s.now - 2 * s.samplePeriod

/-- Whether a moment has been set and lies strictly after `t`. -/
def after (t : Nat) : Option Nat → Bool
  | some m => decide (t < m)
  | none => false

/-- Whether a moment has been set and has been reached at `now`. -/
def reached (now : Nat) : Option Nat → Bool
  | some m => decide (m ≤ now)
  | none => false

/-- R9: an ON run, or the break it became, that began before the gap point holds the gap decision. -/
def State.gapHeld (s : State) (n : LineNo) : Bool :=
  let r := s.scan n
  match r.hook with
  | .off => match r.runStart with
    | some t => after t r.gapPoint
    | none => false
  | .on => match r.lastTransition with
    | some t => after t r.gapPoint
    | none => false

/-- R12: an OFF run that began strictly before the release point holds the release decision. -/
def State.releaseHeld (s : State) (n : LineNo) : Bool :=
  let r := s.scan n
  match r.hook with
  | .on => match r.runStart with
    | some t => after t r.releasePoint
    | none => false
  | .off => false

/-- R8, R9: the gap point is reached. The train closes unless the decision is held or the line has left DIAL. -/
def State.gapPoint (s : State) (n : LineNo) : State :=
  if (s.scan n).gapPoint = none ∨ s.gapHeld n then s else s.closeTrain n

/-- R12: the release point is reached. -/
def State.releasePoint (s : State) (n : LineNo) : State :=
  if (s.scan n).releasePoint = none then s
  else if (s.line n).callState.isRelease then (if s.releaseHeld n then s else s.release n)
  else s.modScan n fun r => { r with releasePoint := none }

/-- R3, R9, R12: a run ends with an agreeing sample. The run start is discarded, and a decision the run held past its
point is taken. -/
def State.runFails (s : State) (n : LineNo) : State :=
  let r := s.scan n
  let t := (s.setLoop n r.hook).modScan n fun r => { r with runCount := 0, runStart := none }
  match r.hook with
  | .on =>
    if s.releaseHeld n ∧ reached s.now r.releasePoint ∧ (s.line n).callState.isRelease then t.release n else t
  | .off => if s.gapHeld n ∧ reached s.now r.gapPoint then t.closeTrain n else t

/-- R14, R20, R37: a signal that the scanner has handed over is taken. An OFF transition wakes a part that conserves and is
then taken by the line's call state; an ANSWER reaches the Ring Scheduler. -/
def State.takeHanded (s : State) (h : Handed) : State :=
  match h with
  | .answer n number => (s.unhand h).takeAnswer n number
  | .off n => ((s.unhand h).wakeIfConserving (.line n)).takeOff n

/-- R14: the signals of a line that wait are taken, in order. -/
def State.takeHandedOf (s : State) (n : LineNo) : State :=
  (s.scanner.handed.filter fun h => decide (h.line = n)).foldl State.takeHanded s

/-- R6, R12: an ON transition starts a break and, in a release state, sets the release point. A train whose gap point
the run did not precede has closed by then (R9), and a signal of the line handed over earlier has been taken (R14). -/
def State.onTransition (s : State) (n : LineNo) : State :=
  if (s.line n).callState = .deenergized ∨ (s.scan n).hook = .on then s
  else
    let t := s.transitionTime n
    let s := (s.takeHandedOf n).setLoop n .on
    let s := if reached t (s.scan n).gapPoint then s.closeTrain n else s
    s.modScan n fun r =>
      { r with hook := .on, runCount := 0, runStart := none, lastTransition := some t,
               releasePoint := if (s.line n).callState.isRelease then some (t + Config.releaseMs) else none }

/-- R7, R9: a break of `b` ms that ended at `t` is classified in DIAL. -/
def State.breakInDial (s : State) (n : LineNo) (t b : Nat) : State :=
  if b < 20 then (if reached s.now (s.scan n).gapPoint then s.closeTrain n else s)
  else if b ≤ 120 then
    s.modScan n fun r => { r with pulseCount := min 11 (r.pulseCount + 1), gapPoint := some (t + Config.gapMs) }
  else (s.dropTrain n).misdial n

/-- R10: a break of `b` ms is classified in CONNECTED. -/
def State.breakInConnected (s : State) (n : LineNo) (b : Nat) : State :=
  if 200 ≤ b ∧ b ≤ 800 then s.flash n else s

/-- R6, R7, R10, R11: an OFF transition dated `t` that ended a break of `b` ms is classified by the call state. -/
def State.classifyOff (s : State) (n : LineNo) (t b : Nat) : State :=
  match (s.line n).callState with
  | .idle => s.takeOff n
  | .alerted => s.takeOff n
  | .dial => s.breakInDial n t b
  | .connected => s.breakInConnected n b
  | .waitBearer => s
  | .clearing => s
  | .lockout => s
  | .denied => s
  | .deenergized => s

/-- R12: a break that measured 1000 ms or more in a release state is RELEASE before its OFF transition is classified
(log entry 8). -/
def State.releaseLongBreak (s : State) (n : LineNo) (b : Nat) : State :=
  if Config.releaseMs ≤ b ∧ (s.line n).callState.isRelease then s.release n else s

/-- R5: the duration of the open break of a line that ends at `t`. -/
def State.breakLength (s : State) (n : LineNo) (t : Nat) : Nat :=
  match (s.scan n).lastTransition with
  | some u => t - u
  | none => 0

/-- R3, R6: what the scanner records of an OFF transition dated `t`. -/
def State.recordOff (s : State) (n : LineNo) (t : Nat) : State :=
  (s.setLoop n .off).modScan n fun r =>
    { r with hook := .off, runCount := 0, runStart := none, lastTransition := some t, releasePoint := none }

/-- R6, R20, R161: an OFF transition ends the break. In conserve mode it first wakes the part. -/
def State.offTransition (s : State) (n : LineNo) : State :=
  if (s.line n).callState = .deenergized ∨ (s.scan n).hook = .off then s
  else
    let t := s.transitionTime n
    let b := s.breakLength n t
    (((s.wakeIfConserving (.line n)).releaseLongBreak n b).recordOff n t).classifyOff n t b

/-- R20, R37: the signal of an OFF transition that another block takes, so that other events may be taken before it: an
ANSWER, or a wake cause. Any other signal is acted on as it is declared. -/
def State.signalOf (s : State) (n : LineNo) : Option Handed :=
  match s.mode.mode, (s.line n).callState with
  | .active, .alerted => (s.line n).alert.map (Handed.answer n)
  | .conserve, .idle => some (.off n)
  | _, _ => none

/-- R3, R14: an OFF transition that the scanner declares at a sample: its signal is handed over, or acted on at once
(log entry 6). -/
def State.declareOff (s : State) (n : LineNo) : State :=
  match s.signalOf n with
  | some h => (s.recordOff n (s.transitionTime n)).hand h
  | none => s.offTransition n

/-- R3: the sample of a line at a sample instant. The third consecutive disagreeing sample declares the transition. -/
def State.debounce (s : State) (n : LineNo) (h : Hook) : State :=
  if (s.line n).callState = .deenergized then s
  else if (s.scan n).hook = h then (if (s.scan n).runCount = 0 then s else s.runFails n)
  else if (s.scan n).runCount = 0 then s.modScan n fun r => { r with runCount := 1, runStart := some s.now }
  else if (s.scan n).runCount = 1 then s.modScan n fun r => { r with runCount := 2 }
  else
    match h with
    | .on => s.onTransition n
    | .off => s.declareOff n

/-- R2: a sample instant that has been reached begins: every energized line is to be sampled at it. -/
def State.beginInstant (s : State) : State :=
  if s.nextSample ≤ s.now then
    { s with scanner := { s.scanner with
        lastSample := s.now
        unsampled := allLines.filter fun n => decide ((s.line n).callState ≠ .deenergized) } }
  else s

/-- R2, R3: the loop detector of a line shows a state. A line that is still to be sampled at the sample instant that stands
is sampled; any other shows it to the instants to come (log entry 31). -/
def State.sample (s : State) (n : LineNo) (h : Hook) : State :=
  let s := s.beginInstant.setLoop n h
  if n ∈ s.scanner.unsampled then
    { s with scanner := { s.scanner with unsampled := s.scanner.unsampled.erase n } }.debounce n h
  else s

/-- R17, R26: a line is energized. -/
def State.energizeLine (s : State) (n : LineNo) : State :=
  ((s.modScan n fun _ => ScanRecord.initial).modLine n fun r =>
    { r with callState := .idle, feed := .sense }).addLineEvent n .energized

/-- R19, R37: a line is sampled no more, and a signal of it that waits, an ANSWER, is discarded. A line whose OFF transition
waits is not deenergized. -/
def State.forgetLine (s : State) (n : LineNo) : State :=
  { s with scanner := { s.scanner with
      unsampled := s.scanner.unsampled.filter fun m => decide (m ≠ n)
      handed := s.scanner.handed.filter fun h => decide (h.line ≠ n) } }

/-- R19, R26: a line in IDLE is deenergized. -/
def State.deenergizeLine (s : State) (n : LineNo) : State :=
  (((s.forgetLine n).modScan n fun _ => ScanRecord.initial).modLine n fun r =>
    { r with callState := .deenergized, feed := .none }).addLineEvent n .deenergized

/-- R16: the energize list as a change leaves it: the group timer stops when it is empty. -/
def State.setEnergizeList (s : State) (l : List LineNo) : State :=
  { s with scanner := { s.scanner with
      energizeList := l
      groupTimer := if l = [] then none else s.scanner.groupTimer } }

/-- R15, R16: a line joins the tail of the energize list; the group timer starts if the list was empty. -/
def State.joinEnergizeList (s : State) (n : LineNo) : State :=
  { s with scanner := { s.scanner with
      energizeList := s.scanner.energizeList ++ [n]
      groupTimer := if s.scanner.energizeList = [] then some (s.now + Config.groupMs) else s.scanner.groupTimer } }

/-- R16: the group timer expires. Up to four lines are energized, and the timer restarts if the list is not empty. -/
def State.energizeGroup (s : State) : State :=
  let group := s.scanner.energizeList.take 4
  let rest := s.scanner.energizeList.drop 4
  let s := { s with scanner := { s.scanner with
    energizeList := rest
    groupTimer := if rest = [] then none else some (s.now + Config.groupMs) } }
  group.foldl State.energizeLine s

end Sys2Proof.Machine
end

