-- ==== Sys2Proof/Machine/ToneOps.lean ====
section
/-! DEFINITION. The Tone Source and the ring generator as they run, and what they apply to the lines (R94, R127, R128,
R131, R133). -/

namespace Sys2Proof.Machine

/-- Table 7-2: the cadence entry of a tone source. -/
def toneEntry : ToneKind → CadenceNo
  | .dial => 0
  | .busy => 1
  | .congestion => 2
  | .howler => 3

/-- R126: segments alternate between on and off and the first is on; segments are counted from 0 here. -/
def segmentOn (segment : Nat) : Bool :=
  decide (segment % 2 = 0)

/-- R127: the segment that follows in a tone entry; after the last comes the first. -/
def nextSegment (count segment : Nat) : Nat :=
  if segment + 1 < count then segment + 1 else 0

/-- R127: when the present segment of a running source ends; an entry of one segment never leaves it. -/
def State.toneSegmentEnds (s : State) (k : ToneKind) : Option Nat :=
  match s.tones.source k with
  | none => none
  | some p =>
    let segments := s.tones.cadences[toneEntry k]
    if segments.length ≤ 1 then none else some (p.began + segments.getD p.segment 0)

/-- R127: the segment of a running source ends and it goes on to the next. -/
def State.advanceTone (s : State) (k : ToneKind) : State :=
  match s.tones.source k, s.toneSegmentEnds k with
  | some p, some t =>
    let q : TonePosition := { segment := nextSegment s.tones.cadences[toneEntry k].length p.segment, began := t }
    { s with tones := s.tones.setSource k (some q) }
  | _, _ => s

/-- R131: the tone a line hears at this moment. -/
def State.heard (s : State) (n : LineNo) : Option ToneKind :=
  match (s.line n).tone with
  | none => none
  | some k =>
    match s.tones.source k with
    | none => none
    | some p => if segmentOn p.segment then some k else none

/-- R94, R128: a segment of a burst ends; the next one follows, or the burst ends. -/
def Burst.advance (b : Burst) : Option Burst :=
  match b.segments[b.segment + 1]? with
  | some d => some { b with segment := b.segment + 1, ends := b.ends + d }
  | none => none

/-- R94: at a window start of a phase a burst begins for the alert at a position, if it is PLACED in the phase, with a
copy of its cadence entry (R128). -/
def State.startBurstAt (s : State) (p : PhaseNo) (pos : AlertPos) : State :=
  match s.alertAt pos with
  | none => s
  | some a =>
    if a.state = .placed ∧ a.phase = some p then
      s.modAlert pos fun a => { a with burst := startBurst s.tones.cadences[a.cadence] s.now }
    else s

/-- R94, R158: a window of a phase starts; in conserve mode the ring generator is stopped. -/
def State.startWindow (s : State) (p : PhaseNo) : State :=
  match s.mode.mode with
  | .conserve => s
  | .active =>
    allPositions.foldl (fun t pos => t.startBurstAt p pos)
      { s with ring := { s.ring with windowTaken := s.ring.windowTaken || decide (s.ring.clock = windowStart p) } }

/-- R128: the segment of the burst of the alert at a position ends. -/
def State.advanceBurst (s : State) (pos : AlertPos) : State :=
  s.modAlert pos fun a => { a with burst := a.burst.bind Burst.advance }

/-- R94: whether ringing voltage is applied to a line at this moment. -/
def State.ringing (s : State) (n : LineNo) : Bool :=
  allPositions.any fun p => match s.alertAt p with
    | some a => match a.burst with
      | some b => segmentOn b.segment && decide (n ∈ a.members)
      | none => false
    | none => false

/-- R133: a cadence entry is replaced; a running source of a tone entry restarts at segment 1. -/
def State.storeCadence (s : State) (e : CadenceNo) (segments : List Nat) : State :=
  let restart := fun (k : ToneKind) (p : Option TonePosition) =>
    if toneEntry k = e then p.map fun _ => { segment := 0, began := s.now } else p
  { s with tones :=
    { cadences := s.tones.cadences.set e.1 segments e.2
      dial := restart .dial s.tones.dial
      busy := restart .busy s.tones.busy
      congestion := restart .congestion s.tones.congestion
      howler := restart .howler s.tones.howler } }

end Sys2Proof.Machine
end

