-- ==== Sys2Proof/Machine/TesterOps.lean ====
section
/-! DEFINITION. The Bearer Tester: the generator, the sequence checker bit by bit, the counting of errors and the end of
a test (R138 to R142). -/

namespace Sys2Proof.Machine

/-- R138, R139: the sum modulo 2 of the outputs of stages 15 and 14; stage k is bit k - 1. -/
def feedback (r : BitVec 15) : Bool :=
  r.getLsbD 14 ^^ r.getLsbD 13

/-- Shift a bit into stage 1. -/
def shiftIn (r : BitVec 15) (b : Bool) : BitVec 15 :=
  (r <<< 1) ||| (if b then 1 else 0)

/-- R138: one bit of the generator. The output of stage 15 is sent, inverted once if an injection waits (R140), and the
register runs on unchanged. -/
def TestContext.sendBit (t : TestContext) : TestContext :=
  { t with sentBit := some (t.generator.getLsbD 14 ^^ t.invertNext)
           generator := shiftIn t.generator (feedback t.generator)
           invertNext := false }

/-- What the checker reports on one bit (R139). -/
inductive CheckerReport where
  | nothing
  | lock
  | bitError
  | lockLost
  deriving DecidableEq, Repr

/-- R139, HUNTING: one received bit. Locking empties the window (DESIGN CHOICE, log entry 14). -/
def Checker.hunt (c : Checker) (bit : Bool) : Checker × CheckerReport :=
  let reg := shiftIn c.register bit
  if c.filled < 15 then ({ c with register := reg, filled := c.filled + 1 }, .nothing)
  else
    let run := if feedback c.register = bit then (if c.register = 0 then c.run else c.run + 1) else 0
    if 32 ≤ run then ({ c with register := reg, run := run, window := [] }, .lock)
    else ({ c with register := reg, run := run }, .nothing)

/-- R139, LOCKED: one received bit is compared with the checker's own sequence. The eighth mismatch within 64 compared
bits is a BIT_ERROR followed by LOCK_LOST, reported here as `lockLost`, and empties the window (DESIGN CHOICE, log entry 14). -/
def Checker.follow (c : Checker) (bit : Bool) : Checker × CheckerReport :=
  let p := feedback c.register
  let window := (decide (p ≠ bit) :: c.window).take 64
  if p = bit then ({ c with register := shiftIn c.register p, window := window }, .nothing)
  else if 8 ≤ window.count true then (Checker.hunting, .lockLost)
  else ({ c with register := shiftIn c.register p, window := window }, .bitError)

/-- R140: LOCK. -/
def TestContext.takeLock (t : TestContext) : TestContext :=
  { t with locked := true }

/-- R140: BIT_ERROR, counted only while LOCKED, to at most 255. DESIGN CHOICE (log entry 14): a BIT_ERROR that comes as a
command counts here and nowhere else. It is none of the mismatches in the window of the model's own checker, and the
checker's register stays as it is. -/
def TestContext.takeError (t : TestContext) : TestContext :=
  if t.locked then { t with errorCount := min 255 (t.errorCount + 1) } else t

/-- R140: LOCK_LOST; the count keeps every error counted before it. -/
def TestContext.takeLockLost (t : TestContext) : TestContext :=
  { t with locked := false }

/-- LOCK reported from outside the model's own checker (log entry 14): the checker field and the comparison window are as
R139 leaves them on locking. -/
def TestContext.reportLock (t : TestContext) : TestContext :=
  { t.takeLock with checker := { t.checker with window := [] } }

/-- LOCK_LOST reported from outside the model's own checker (log entry 14): the checker is HUNTING afresh. -/
def TestContext.reportLockLost (t : TestContext) : TestContext :=
  { t.takeLockLost with checker := Checker.hunting }

/-- R139, R140: the checker reads one bit of the incoming timeslot and the tester takes what it reports. -/
def TestContext.readBit (t : TestContext) (bit : Bool) : TestContext :=
  let (c, report) := if t.locked then t.checker.follow bit else t.checker.hunt bit
  let t := { t with checker := c }
  match report with
  | .nothing => t
  | .lock => t.takeLock
  | .bitError => t.takeError
  | .lockLost => t.takeError.takeLockLost

/-- The bits one millisecond carries on the timeslot of the bearer under test, `k` of them, the incoming ones being free
values numbered from `fresh` (log entry 14). -/
def TestContext.bits (t : TestContext) (fresh : Nat) : Nat → TestContext
  | 0 => t
  | k + 1 => (t.sendBit.readBit (Config.incomingBit fresh)).bits (fresh + 1) k

/-- Change the running test context. -/
def State.modTest (s : State) (f : TestContext → TestContext) : State :=
  { s with test := s.test.map f }

/-- R140: an injection: the next outgoing bit is inverted. -/
def State.injectBit (s : State) : State :=
  s.modTest fun t => if t.inject then { t with invertNext := true, injections := t.injections + 1 } else t

/-- R141: the outcome of a test at the expiry of its duration. -/
def TestContext.outcome (t : TestContext) : TestOutcome :=
  if t.locked ∧ t.errorCount ≤ t.threshold then .pass else .fail

/-- R141: the duration timer expires. -/
def State.endTest (s : State) : State :=
  match s.test with
  | none => s
  | some t =>
    let s := ({ s with test := none }.modBearer t.bearer fun b => b.withResult t.outcome none t).addBearerEvent t.bearer
      .testEnded
    match t.outcome with
    | .pass => s.enterFree t.bearer
    | .none | .fail | .aborted =>
      s.modBearer t.bearer fun b => { b with state := .down, downReason := some .testFailed, holder := none }

/-- What a bearer's outgoing timeslot carries (R81, R138). -/
inductive Timeslot where
  | speech (n : LineNo)
  | testSequence
  | nothing
  deriving DecidableEq, Repr

/-- R138: speech for a BUSY bearer, the test sequence for a TESTING one, and nothing otherwise. -/
def State.timeslot (s : State) (b : BearerNo) : Timeslot :=
  match (s.bearer b).state, (s.bearer b).holder with
  | .busy, some (.line n) => .speech n
  | .testing, _ => .testSequence
  | _, _ => .nothing

end Sys2Proof.Machine
end

