-- ==== Sys2Proof/Machine/HighwayOps.lean ====
section
/-! DEFINITION. The Highway Monitor and controller supervision (R146 to R154), with what the highway going DOWN and
coming back does at the other blocks (R32, R85, R107, R142). -/

namespace Sys2Proof.Machine

/-- R147: a frame pulse. The next loss is measured from it, and a stopped restore timer starts in HIT and DOWN. Pulses
are not observed in conserve mode (R152). -/
def State.pulse (s : State) : State :=
  match s.mode.mode with
  | .conserve => s
  | .active =>
    let restore := if s.highway.state ≠ .up ∧ s.highway.restore = none then some (s.now + Config.restoreMs)
      else s.highway.restore
    { s with highway := { s.highway with lossFrom := some s.now, restore := restore } }

/-- R147, R148: a loss turns UP into HIT, and stops a running restore timer in HIT and DOWN. -/
def State.loss (s : State) : State :=
  match s.mode.mode, s.highway.state with
  | .conserve, _ => s
  | .active, .up =>
    { s with highway := { s.highway with state := .hit, grace := some (s.now + Config.graceMs), lossFrom := none }
      }.addPartEvent .highwayHit
  | .active, .hit => { s with highway := { s.highway with restore := none, lossFrom := none } }
  | .active, .down => { s with highway := { s.highway with restore := none, lossFrom := none } }

/-- R151: one bearer at the restore: a DOWN(HIGHWAY) bearer passes through the entry rule. -/
def State.restoreBearer (s : State) (b : BearerNo) : State :=
  if (s.bearer b).state = .down ∧ (s.bearer b).downReason = some .highway then s.enterFree b else s

/-- R148, R151: the restore timer reaches 100 ms. -/
def State.restoreHighway (s : State) : State :=
  match s.highway.restore, s.highway.state with
  | none, _ => s
  | some _, .up => s
  | some _, .hit => { s with highway := { s.highway with state := .up, grace := none, restore := none } }
  | some _, .down =>
    allBearers.foldl State.restoreBearer
      ({ s with highway := { s.highway with state := .up, grace := none, restore := none } }.addPartEvent .highwayUp)

/-- R85: one bearer at the moment the highway goes DOWN. -/
def State.downBearer (s : State) (b : BearerNo) : State :=
  if (s.bearer b).state = .blocked then s
  else s.modBearer b fun r => { r with state := .down, downReason := some .highway, holder := none }

/-- R32: a CONNECTED line at the moment the highway goes DOWN. -/
def State.downLine (s : State) (n : LineNo) : State :=
  if (s.line n).callState = .connected then s.toClearing n (some .congestion) .congestion else s

/-- R107: an outstanding alert at the moment the highway goes DOWN. -/
def State.downAlert (s : State) (p : AlertPos) : State :=
  if isOutstanding (s.alertAt p) then s.endUnanswered p .aborted (some .highway) else s

/-- R85, R149: the highway goes DOWN: the test, the alerts, the calls, the seizure queue and the bearers. -/
def State.takeDown (s : State) : State :=
  let s := { s with highway := { s.highway with state := .down, grace := none } }.addPartEvent .highwayDown
  let s := s.abortTest .highway
  let s := allPositions.foldl State.downAlert s
  let s := allLines.foldl State.downLine s
  let s := allBearers.foldl State.downBearer s
  { s with pool := { s.pool with freeList := [] } }.flushQueue

/-- R149: the grace timer expires; one re-evaluation follows the whole action (log entry 18). -/
def State.graceExpires (s : State) : State :=
  if s.highway.grace = none then s else s.accounted State.takeDown

/-- R153: a valid frame counts for controller supervision. -/
def State.countFrame (s : State) : State :=
  let s := match s.sli.controller with
    | .lost => { s with sli := { s.sli with controller := .present } }.addPartEvent .controllerBack
    | .present => s
  s.startSupervision

/-- R154: the supervision timer expires. -/
def State.supervisionExpires (s : State) : State :=
  if s.sli.supervision = none then s
  else
    ({ s with sli := { s.sli with controller := .lost, supervision := none } }.addPartEvent .controllerLost).flushQueue

end Sys2Proof.Machine
end

