-- ==== Sys2Proof/Machine/Operands.lean ====
section
/-! DEFINITION. The operand forms of the requests: the identities a field may name, the value codes of Table 11-4 that a
request may carry, and the clamps of the owning rules. -/

namespace Sys2Proof.Machine

/-! ### Identities -/

/-- A line number, absent above 23. -/
def lineNo (v : Nat) : Option LineNo :=
  if h : v < 24 then some ⟨v, h⟩ else none

/-- A bearer number, absent above 5. -/
def bearerNo (v : Nat) : Option BearerNo :=
  if h : v < 6 then some ⟨v, h⟩ else none

/-- A cadence entry number, absent above 7. -/
def cadenceNo (v : Nat) : Option CadenceNo :=
  if h : v < 8 then some ⟨v, h⟩ else none

/-- A list of line numbers, absent if any is above 23 (R18, R19). -/
def lineNos : List Nat → Option (List LineNo)
  | [] => some []
  | v :: rest =>
    match lineNo v, lineNos rest with
    | some n, some ns => some (n :: ns)
    | _, _ => none

/-! ### Codes of a request field (Table 11-4) -/

/-- signalling: 0 PULSE, 1 TONE. -/
def signallingOf : Nat → Option Signalling
  | 0 => some .pulse
  | 1 => some .tone
  | _ => none

/-- feed ceiling: 0 FULL, 1 REDUCED. -/
def ceilingOf : Nat → Option Ceiling
  | 0 => some .full
  | 1 => some .reduced
  | _ => none

/-- no/yes fields: 0 no, 1 yes. -/
def yesOf : Nat → Option Bool
  | 0 => some false
  | 1 => some true
  | _ => none

/-- CLEAR's tone: 0 none, 2 BUSY, 3 CONGESTION (R33). -/
def clearToneOf : Nat → Option (Option ToneKind)
  | 0 => some none
  | 2 => some (some .busy)
  | 3 => some (some .congestion)
  | _ => none

/-- A digit or prefix character: 0..9 for the digits, 10 for `*`. -/
def digitOf (v : Nat) : Option Digit :=
  if h : v < 10 then some (.num ⟨v, h⟩) else if v = 10 then some .star else none

/-- The characters of a prefix, absent if any is outside 0..9 and `*` (R58). -/
def digitsOf : List Nat → Option (List Digit)
  | [] => some []
  | v :: rest =>
    match digitOf v, digitsOf rest with
    | some d, some ds => some (d :: ds)
    | _, _ => none

/-- plan class: 0 NORMAL, 1 PRIORITY, 2 BARRED. -/
def planClassOf : Nat → Option PlanClass
  | 0 => some .normal
  | 1 => some .priority
  | 2 => some .barred
  | _ => none

/-- The target of an ALERT: kind 0 names a line, kind 1 a group; absent if the kind is neither (R90, check 4). The inner
value is absent if the number is out of range (check 5). -/
def targetOf (kind number : Nat) : Option (Option Target) :=
  match kind with
  | 0 => some ((lineNo number).map .line)
  | 1 => some (if h : number < 32 then some (.group ⟨number, h⟩) else none)
  | _ => none

/-- The cadence of an ALERT: a ring entry, 4..7 (R90, check 4). -/
def ringCadenceOf (v : Nat) : Option CadenceNo :=
  if 4 ≤ v then cadenceNo v else none

/-- The alert group of LINE_CONFIG; a value above 31 is stored as absent (R41). -/
def alertGroupOf (v : Nat) : Option (Fin 32) :=
  if h : v < 32 then some ⟨v, h⟩ else none

/-! ### Clamps -/

/-- The nearer end of a range for a value outside it. -/
def clampTo (lo hi v : Nat) : Nat :=
  max lo (min hi v)

/-- R41: ringer load, 1..5. -/
def clampRingerLoad (v : Nat) : Nat := clampTo 1 5 v

/-- R90: ring timeout, 5..180 s. -/
def clampRingTimeout (v : Nat) : Nat := clampTo 5 180 v

/-- R137: test duration, 1..60 s. -/
def clampDuration (v : Nat) : Nat := clampTo 1 60 v

/-- R121: budget, 0..600 PU. -/
def clampBudget (v : Nat) : Nat := clampTo 0 600 v

/-- R121: ring capacity, 1..12 RU. -/
def clampCapacity (v : Nat) : Nat := clampTo 1 12 v

/-- R2: the largest of 2, 4 and 8 that does not exceed the request, or 2. -/
def clampSample (v : Nat) : Nat :=
  if 8 ≤ v then 8 else if 4 ≤ v then 4 else 2

/-- R51: first-digit period, 4..30 s. -/
def clampFirstDigit (v : Nat) : Nat := clampTo 4 30 v

/-- R51: interdigit period, 2..15 s. -/
def clampInterdigit (v : Nat) : Nat := clampTo 2 15 v

/-- R51: wait limit, 2..30 s. -/
def clampWaitLimit (v : Nat) : Nat := clampTo 2 30 v

/-- R34: clearing time, 5..60 s. -/
def clampClearing (v : Nat) : Nat := clampTo 5 60 v

/-- R153: supervision time: 0 is 0, 1 to 4 give 5, above 255 gives 255. -/
def clampSupervision (v : Nat) : Nat :=
  if v = 0 then 0 else clampTo 5 255 v

/-- R58: an expected length, from the prefix length to 24. -/
def clampLength (leading v : Nat) : Nat := clampTo leading 24 v

/-! ### LOAD_PLAN (R58) -/

/-- One entry of a LOAD_PLAN, absent where R58 refuses it. -/
def planEntryOf (e : PlanRow) : Option PlanEntry :=
  if e.leading.length = 0 ∨ 4 < e.leading.length then none
  else
    match digitsOf e.leading, planClassOf e.cls with
    | some ds, some c => some { leading := ds, length := clampLength ds.length e.length, cls := c }
    | _, _ => none

/-- The entries of a LOAD_PLAN, absent where R58 refuses one of them. -/
def planEntriesOf : List PlanRow → Option (List PlanEntry)
  | [] => some []
  | e :: rest =>
    match planEntryOf e, planEntriesOf rest with
    | some f, some fs => some (f :: fs)
    | _, _ => none

/-- R58: whether no two entries have the same prefix. -/
def distinctLeadings : List PlanEntry → Bool
  | [] => true
  | e :: rest => rest.all (fun f => decide (f.leading ≠ e.leading)) && distinctLeadings rest

/-- R58: the plan a LOAD_PLAN carries, absent where the request is refused. -/
def planOf (count : Nat) (entries : List PlanRow) : Option (List PlanEntry) :=
  if 16 < count ∨ entries.length ≠ count then none
  else
    match planEntriesOf entries with
    | some plan => if distinctLeadings plan then some plan else none
    | none => none

/-! ### LOAD_CADENCE (R132) -/

/-- R132, steps 1 and 2: clamp to 10..2000 ms, then round down to a multiple of 10 ms. -/
def legalSegment (v : Nat) : Nat :=
  clampTo 10 2000 v / 10 * 10

/-- R132, step 3: keep segments while the running sum, started at `sum`, stays within 2000 ms. -/
def truncateSegments (sum : Nat) : List Nat → List Nat
  | [] => []
  | d :: rest =>
    if 2000 ≤ sum then []
    else if 2000 < sum + d then [2000 - sum]
    else d :: truncateSegments (sum + d) rest

/-- R132: the durations of a request as applied to a cadence entry. -/
def appliedSegments (e : CadenceNo) (durations : List Nat) : List Nat :=
  let legal := durations.map legalSegment
  if 4 ≤ e.1 then truncateSegments 0 legal else legal

end Sys2Proof.Machine
end

