-- ==== Sys2Proof/Machine/Layouts.lean ====
section
/-! DEFINITION. The record layouts of the supervisory line (R167, R173, Tables 11-3, 11-4, 11-7 and 11-8): the codes of
the values, the three snapshots, the replies and the reports. -/

namespace Sys2Proof.Machine

/-! ### Field encodings (R173) -/

/-- One octet. -/
def octet (v : Nat) : Octet :=
  BitVec.ofNat 8 v

/-- A number of two octets, high octet first. -/
def twoOctets (v : Nat) : List Octet :=
  [octet (v / 256), octet v]

/-- A number of three octets, high octet first. -/
def threeOctets (v : Nat) : List Octet :=
  [octet (v / 65536), octet (v / 256), octet v]

/-- An absent value is sent as FFh. -/
def orAbsent : Option Nat → Octet
  | some v => octet v
  | none => 0xFF

/-- An alert number field: absence is sent as 00h. -/
def orNoAlert : Option Nat → Octet
  | some v => octet v
  | none => 0x00

/-- A list is a count octet followed by its items. -/
def counted (items : List (List Octet)) : List Octet :=
  octet items.length :: items.flatten

/-- no/yes fields. -/
def yesNo (b : Bool) : Octet :=
  if b then 1 else 0

/-- A list of line numbers. -/
def lineList (ns : List LineNo) : List Octet :=
  counted (ns.map fun n => [octet n.1])

/-! ### Value codes (Table 11-4) -/

def CallState.code : CallState → Nat
  | .deenergized => 0
  | .idle => 1
  | .denied => 2
  | .dial => 3
  | .waitBearer => 4
  | .alerted => 5
  | .connected => 6
  | .clearing => 7
  | .lockout => 8

def hookCode : Hook → Nat
  | .on => 0
  | .off => 1

def Feed.code : Feed → Nat
  | .none => 0
  | .sense => 1
  | .reduced => 2
  | .full => 3

def Signalling.code : Signalling → Nat
  | .pulse => 0
  | .tone => 1

def Ceiling.code : Ceiling → Nat
  | .full => 0
  | .reduced => 1

def toneCode : Option ToneKind → Nat
  | none => 0
  | some .dial => 1
  | some .busy => 2
  | some .congestion => 3
  | some .howler => 4

def TimerKind.code : TimerKind → Nat
  | .firstDigit => 1
  | .interdigit => 2
  | .wait => 3
  | .clearing => 4
  | .howler => 5

/-- The state timer appears as its kind only (R42). -/
def timerCode : Option StateTimer → Nat
  | none => 0
  | some t => t.kind.code

def digitCode : Digit → Nat
  | .num d => d.1
  | .star => 10

def PlanClass.code : PlanClass → Nat
  | .normal => 0
  | .priority => 1
  | .barred => 2

def QueueClass.code : QueueClass → Nat
  | .normal => 0
  | .priority => 1

def BearerState.code : BearerState → Nat
  | .free => 0
  | .reserved => 1
  | .busy => 2
  | .testing => 3
  | .blocked => 4
  | .down => 5

def DownReason.code : DownReason → Nat
  | .highway => 0
  | .testFailed => 1

def holderKindCode : Option Holder → Nat
  | none => 0
  | some (.line _) => 1
  | some (.alert _) => 2

/-- The line or the alert number of a holder. -/
def Holder.number : Holder → Nat
  | .line n => n.1
  | .alert a => a

def TestOutcome.code : TestOutcome → Nat
  | .none => 0
  | .pass => 1
  | .fail => 2
  | .aborted => 3

def TestCause.code : TestCause → Nat
  | .giveUp => 0
  | .preempt => 1
  | .block => 2
  | .highway => 3

def AlertState.code : AlertState → Nat
  | .queued => 0
  | .placed => 1
  | .answered => 2
  | .noAnswer => 3
  | .cancelled => 4
  | .aborted => 5

def AlertCause.code : AlertCause → Nat
  | .preempted => 0
  | .highway => 1

def Target.kindCode : Target → Nat
  | .line _ => 0
  | .group _ => 1

def Target.number : Target → Nat
  | .line n => n.1
  | .group g => g.1

def Mode.code : Mode → Nat
  | .active => 0
  | .conserve => 1

def WakeCause.code : WakeCause → Nat
  | .none => 0
  | .line _ => 1
  | .controller => 2
  | .timer => 3

/-- The wake line, present only for LINE. -/
def WakeCause.line? : WakeCause → Option Nat
  | .line n => some n.1
  | .none => Option.none
  | .controller => Option.none
  | .timer => Option.none

def HighwayState.code : HighwayState → Nat
  | .up => 0
  | .hit => 1
  | .down => 2

def Controller.code : Controller → Nat
  | .present => 0
  | .lost => 1

/-! ### Snapshots (Table 11-7) -/

/-- The part snapshot, 19 octets. -/
def State.partSnapshot (s : State) : List Octet :=
  [octet s.mode.mode.code, octet s.mode.wakeCause.code, orAbsent s.mode.wakeCause.line?, octet s.straps.unit.1]
    ++ twoOctets s.power.budget ++ twoOctets s.committed
    ++ [yesNo s.power.overcommit, octet s.ring.capacity, octet (s.phaseLoad 0), octet (s.phaseLoad 1),
        octet (s.phaseLoad 2), octet s.pool.queue.length, octet s.collector.waitList.length,
        octet s.power.waitList.length, octet s.highway.state.code, octet s.sli.controller.code, yesNo s.sli.overrun]

/-- Where a value stands in a list, counted from 0. -/
def positionIn {α : Type} [DecidableEq α] (x : α) : List α → Option Nat
  | [] => none
  | y :: rest => if y = x then some 0 else (positionIn x rest).map (· + 1)

/-- R42: the position of a line in the seizure queue. -/
def State.queuePosition (s : State) (n : LineNo) : Option Nat :=
  positionIn n (s.pool.queue.map Prod.fst)

/-- R42: the collection a line stands in, by its code. -/
def State.collectionCode (s : State) (n : LineNo) : Nat :=
  if n ∈ s.scanner.energizeList then 1
  else if n ∈ s.power.waitList then 2
  else if n ∈ s.collector.waitList then 3
  else if (s.queuePosition n).isSome then 4
  else 0

/-- The line snapshot, 21 octets and the digits. -/
def State.lineSnapshot (s : State) (n : LineNo) : List Octet :=
  let r := s.line n
  [octet n.1, octet r.callState.code, octet (hookCode (s.scan n).hook), octet r.feed.code, octet r.signalling.code,
   octet r.ringerLoad, orAbsent (r.alertGroup.map Fin.val), octet r.ceiling.code, yesNo r.restricted, r.callNumber,
   octet r.flashCount, orAbsent (r.bearer.map Fin.val), orNoAlert r.alert, orAbsent (r.receiver.map Fin.val),
   octet (toneCode r.tone), octet (timerCode r.timer), orAbsent (r.planMatch.map fun m => m.cls.code),
   orAbsent (r.planMatch.map fun m => m.length), octet (s.collectionCode n), orAbsent (s.queuePosition n)]
    ++ counted (r.digits.map fun d => [octet (digitCode d)])

/-- The bearer snapshot, 10 octets. -/
def State.bearerSnapshot (s : State) (b : BearerNo) : List Octet :=
  let r := s.bearer b
  [octet b.1, octet r.state.code, orAbsent (r.downReason.map DownReason.code), octet (holderKindCode r.holder),
   orAbsent (r.holder.map Holder.number), yesNo r.blockPending, octet r.outcome.code,
   orAbsent (r.abortCause.map TestCause.code), octet r.errorCount, yesNo r.locked]

/-! ### Events fields -/

/-- Line events, three octets. -/
def lineEventField (e : List LineEvent) : List Octet :=
  threeOctets (setBits LineEvent.all e)

/-- Bearer events, one octet. -/
def bearerEventField (e : List BearerEvent) : List Octet :=
  [octet (setBits BearerEvent.all e)]

/-- Part events, two octets. -/
def partEventField (e : List PartEvent) : List Octet :=
  twoOctets (setBits PartEvent.all e)

/-! ### Replies (R167, Table 11-3) -/

/-- The result codes. -/
inductive Result where
  | ok
  | badRecord
  | badTarget
  | busy
  | wrongState
  | noBearer
  | noPower
  | tableFull
  | duplicate
  | unknownAlert
  | tooLate
  | notQuiet
  deriving DecidableEq, Repr

def Result.code : Result → Nat
  | .ok => 0
  | .badRecord => 1
  | .badTarget => 2
  | .busy => 3
  | .wrongState => 4
  | .noBearer => 5
  | .noPower => 6
  | .tableFull => 7
  | .duplicate => 8
  | .unknownAlert => 9
  | .tooLate => 10
  | .notQuiet => 11

/-- R167: a reply has the request type with its high-order bit set, and the result as its first body octet. -/
def reply (type : Octet) (r : Result) (rest : List Octet) : Frame :=
  { type := type ||| 0x80, body := octet r.code :: rest }

/-! ### Reports (Table 11-8) -/

/-- PART_REPORT. -/
def State.partReportFrame (s : State) : Frame :=
  { type := 0x41, body := partEventField s.sli.events ++ s.partSnapshot }

/-- LINE_REPORT. -/
def State.lineReportFrame (s : State) (n : LineNo) : Frame :=
  { type := 0x42, body := lineEventField (s.line n).events ++ s.lineSnapshot n }

/-- BEARER_REPORT. -/
def State.bearerReportFrame (s : State) (b : BearerNo) : Frame :=
  { type := 0x43, body := bearerEventField (s.bearer b).events ++ s.bearerSnapshot b }

/-- ALERT_REPORT for the record at a position. -/
def alertReportFrame (p : AlertPos) (a : AlertRecord) : Frame :=
  { type := 0x44
    body := [octet a.number, octet p.1, octet a.target.kindCode, octet a.target.number, octet a.cadence.1, octet a.load,
             octet a.state.code, orAbsent (a.phase.map Fin.val), octet a.bearer.1, orAbsent (a.answering.map Fin.val),
             orAbsent (a.cause.map AlertCause.code)] ++ lineList a.members }

end Sys2Proof.Machine
end

