-- ==== Sys2Proof/Machine/Frames.lean ====
section
/-! DEFINITION. Frames on the supervisory line: the check (R164), the receive hunter (R165), and the requests that valid
frames carry (R167, Table 11-6). -/

namespace Sys2Proof.Machine

/-! ### The check (R164) -/

/-- One bit enters the check register: x^16 + x^12 + x^5 + 1. -/
def checkBit (c : Check) (bit : Bool) : Check :=
  if c.msb ^^ bit then (c <<< 1) ^^^ 0x1021 else c <<< 1

/-- The bits of an octet, most significant first. -/
def octetBits (o : Octet) : List Bool :=
  [o.getLsbD 7, o.getLsbD 6, o.getLsbD 5, o.getLsbD 4, o.getLsbD 3, o.getLsbD 2, o.getLsbD 1, o.getLsbD 0]

/-- One octet enters the check register. -/
def checkOctet (c : Check) (o : Octet) : Check :=
  (octetBits o).foldl checkBit c

/-- The check over the length, the type and the body. -/
def checkOf (octets : List Octet) : Check :=
  octets.foldl checkOctet 0xFFFF

/-- The check as it is sent, high octet first. -/
def checkOctets (c : Check) : List Octet :=
  [c.extractLsb' 8 8, c.extractLsb' 0 8]

/-- The start octet of a frame (Table 11-2). -/
def startOctet : Octet := 0xA5

/-- The octets of a frame after the start octet and before the check: length, type and body. -/
def Frame.checked (f : Frame) : List Octet :=
  octet (f.body.length + 1) :: f.type :: f.body

/-- R164: the octets of a frame on the line. -/
def Frame.octets (f : Frame) : List Octet :=
  startOctet :: f.checked ++ checkOctets (checkOf f.checked)

/-! ### The receive hunter (R165) -/

/-- What one octet does to the hunter: it goes on in a state, or a frame is complete with its length and the octets after
the length. -/
inductive Taken where
  | more (h : Hunter)
  | complete (length : Octet) (held : List Octet)
  deriving DecidableEq, Repr

/-- R165: the hunter takes one octet. -/
def Hunter.take (h : Hunter) (o : Octet) : Taken :=
  match h with
  | .hunting => .more (if o = startOctet then .awaitLength else .hunting)
  | .awaitLength => .more (if 1 ≤ o.toNat ∧ o.toNat ≤ 250 then .collecting o [] else .hunting)
  | .collecting length held =>
    let held := held ++ [o]
    if held.length = length.toNat + 2 then .complete length held else .more (.collecting length held)

/-- R165: the frame that complete octets make, if their check matches. -/
def completedFrame (length : Octet) (held : List Octet) : Option Frame :=
  match held.take length.toNat with
  | [] => none
  | type :: body =>
    if checkOctets (checkOf (length :: type :: body)) = held.drop length.toNat then some { type := type, body := body }
    else none

/-- R165: the hunter takes octets in order. A valid frame is found and hunting goes on with the next octet; the octets of
a discarded frame after its start octet are taken again from HUNTING. `fuel` bounds the octets taken. -/
def Hunter.scan : Nat → Hunter → List Octet → Hunter × List Frame
  | 0, h, _ => (h, [])
  | _ + 1, h, [] => (h, [])
  | fuel + 1, h, o :: rest =>
    match h.take o with
    | .more h' => Hunter.scan fuel h' rest
    | .complete length held =>
      match completedFrame length held with
      | some f =>
        let found := Hunter.scan fuel .hunting rest
        (found.1, f :: found.2)
      | none => Hunter.scan fuel .hunting (length :: held ++ rest)

/-- How many octets the hunter holds. -/
def Hunter.size : Hunter → Nat
  | .hunting => 0
  | .awaitLength => 1
  | .collecting _ held => held.length + 2

/-- Octets enough for every rescan: each discarded frame gives back one octet fewer than it held. -/
def scanFuel (h : Hunter) (octets : List Octet) : Nat :=
  (h.size + octets.length + 1) * (h.size + octets.length + 1)

/-- R165: the hunter takes octets in order, however many rescans they need. -/
def Hunter.hunt (h : Hunter) (octets : List Octet) : Hunter × List Frame :=
  Hunter.scan (scanFuel h octets) h octets

/-- R165: whether the hunter is inside a frame, where the gap rule applies. -/
def Hunter.inFrame : Hunter → Bool
  | .hunting => false
  | .awaitLength => true
  | .collecting _ _ => true

/-! ### Requests (R167, Table 11-6) -/

/-- A number of two octets, high octet first. -/
def wide (high low : Octet) : Nat :=
  256 * high.toNat + low.toNat

/-- The entries of a LOAD_PLAN body, absent unless exactly `count` entries stand in it. -/
def planRows : Nat → List Octet → Option (List PlanRow)
  | 0, [] => some []
  | 0, _ :: _ => none
  | _ + 1, [] => none
  | count + 1, n :: rest =>
    if rest.length < n.toNat + 2 then none
    else
      match rest.drop n.toNat with
      | length :: cls :: after =>
        (planRows count after).map fun rows =>
          { leading := (rest.take n.toNat).map BitVec.toNat, length := length.toNat, cls := cls.toNat } :: rows
      | _ => none

/-- The durations of a LOAD_CADENCE body, two octets each; absent if an octet is left over. -/
def durationsOf : List Octet → Option (List Nat)
  | [] => some []
  | [_] => none
  | high :: low :: rest => (durationsOf rest).map (wide high low :: ·)

/-- R167: the request of a LOAD_PLAN body, absent where its length is wrong for its counts. -/
def loadPlanOf : List Octet → Option Request
  | [] => none
  | count :: rest => (planRows count.toNat rest).map (.loadPlan count.toNat)

/-- R167: the request of a LOAD_CADENCE body, absent where its length is wrong for its count. -/
def loadCadenceOf : List Octet → Option Request
  | entry :: count :: rest =>
    match durationsOf rest with
    | some ds => if ds.length = count.toNat then some (.loadCadence entry.toNat ds) else none
    | none => none
  | _ => none

/-- Table 11-6: the request of a type and a body, absent for an unknown type or a wrong body length. -/
def requestOf (type : Nat) (body : List Octet) : Option Request :=
  match type, body with
  | 0x01, [] => some .partQuery
  | 0x02, [a] => some (.lineQuery a.toNat)
  | 0x03, [a] => some (.bearerQuery a.toNat)
  | 0x08, [a, b, c, d, e, f] => some (.lineConfig a.toNat b.toNat c.toNat d.toNat e.toNat f.toNat)
  | 0x09, body => some (.energize (body.map BitVec.toNat))
  | 0x0A, body => some (.deenergize (body.map BitVec.toNat))
  | 0x0B, [a, b] => some (.clear a.toNat b.toNat)
  | 0x10, [a, b, c, d, e] => some (.alert a.toNat b.toNat c.toNat d.toNat e.toNat)
  | 0x11, [a] => some (.cancelAlert a.toNat)
  | 0x14, [a] => some (.blockBearer a.toNat)
  | 0x15, [a] => some (.unblockBearer a.toNat)
  | 0x16, [a, b, c, d, e] => some (.testBearer a.toNat b.toNat c.toNat d.toNat e.toNat)
  | 0x18, [a, b, c] => some (.setPower (wide a b) c.toNat)
  | 0x19, [a, b, c, d, e, f] => some (.setTimers a.toNat b.toNat c.toNat d.toNat e.toNat f.toNat)
  | 0x1A, body => loadPlanOf body
  | 0x1B, body => loadCadenceOf body
  | 0x1E, [a, b] => some (.conserve (wide a b))
  | 0x1F, [] => some .restart
  | _, _ => none

/-- R167: what a valid frame asks for; a record that is malformed is answered with BAD_RECORD. -/
def Frame.request (f : Frame) : Request :=
  (requestOf f.type.toNat f.body).getD (.unknown f.type)

/-! ### The frames a host sends -/

/-- Table 11-6: the request types. -/
def requestType : Request → Octet
  | .partQuery => 0x01
  | .lineQuery _ => 0x02
  | .bearerQuery _ => 0x03
  | .lineConfig _ _ _ _ _ _ => 0x08
  | .energize _ => 0x09
  | .deenergize _ => 0x0A
  | .clear _ _ => 0x0B
  | .alert _ _ _ _ _ => 0x10
  | .cancelAlert _ => 0x11
  | .blockBearer _ => 0x14
  | .unblockBearer _ => 0x15
  | .testBearer _ _ _ _ _ => 0x16
  | .setPower _ _ => 0x18
  | .setTimers _ _ _ _ _ _ => 0x19
  | .loadPlan _ _ => 0x1A
  | .loadCadence _ _ => 0x1B
  | .conserve _ => 0x1E
  | .restart => 0x1F
  | .unknown t => t

/-- The octets of one entry of a LOAD_PLAN body. -/
def planRowOctets (e : PlanRow) : List Octet :=
  octet e.leading.length :: e.leading.map octet ++ [octet e.length, octet e.cls]

/-- Table 11-6: the body of a request. -/
def requestBody : Request → List Octet
  | .partQuery => []
  | .lineQuery a => [octet a]
  | .bearerQuery a => [octet a]
  | .lineConfig a b c d e f => [octet a, octet b, octet c, octet d, octet e, octet f]
  | .energize ns => ns.map octet
  | .deenergize ns => ns.map octet
  | .clear a b => [octet a, octet b]
  | .alert a b c d e => [octet a, octet b, octet c, octet d, octet e]
  | .cancelAlert a => [octet a]
  | .blockBearer a => [octet a]
  | .unblockBearer a => [octet a]
  | .testBearer a b c d e => [octet a, octet b, octet c, octet d, octet e]
  | .setPower a b => twoOctets a ++ [octet b]
  | .setTimers a b c d e f => [octet a, octet b, octet c, octet d, octet e, octet f]
  | .loadPlan count entries => octet count :: (entries.map planRowOctets).flatten
  | .loadCadence entry ds => octet entry :: octet ds.length :: (ds.map twoOctets).flatten
  | .conserve limit => twoOctets limit
  | .restart => []
  | .unknown _ => []

/-- The frame that carries a request. -/
def requestFrame (r : Request) : Frame :=
  { type := requestType r, body := requestBody r }

end Sys2Proof.Machine
end

