-- ==== Sys2Proof/Machine/Reception.lean ====
section
/-! DEFINITION. The completion of a valid frame (R166): the wake, the count for controller supervision, the reply queue
and the drop of a request that finds it full. -/

namespace Sys2Proof.Machine

/-- R166, step 2: a request is dropped for a full reply queue. -/
def State.dropRequest (s : State) : State :=
  { s with sli := { s.sli with overrun := true } }.addPartEvent .overrun

/-- R166, step 3: a reply joins the tail of the reply queue. -/
def State.queueReply (s : State) (f : Frame) : State :=
  { s with sli := { s.sli with replies := s.sli.replies ++ [f] } }

/-- R162: the OFF transition of a line that a frame has overtaken is OFF_HOOK; a free value says whether it is handled
before the frame's request, or waits (log entry 32). -/
def State.meetOff (s : State) (n : LineNo) : State :=
  if (s.line n).callState = .idle ∧ Config.offFirst s.fresh then
    (({ s with fresh := s.fresh + 1 } : State).unhand (.off n)).originate n
  else { s with fresh := s.fresh + 1 }

/-- R162: the OFF transitions that a frame has overtaken on their way to Mode Control. DESIGN CHOICE (log entry 32): those of
several lines are met in the order in which they were handed over; R1 and R14 give them no order. -/
def State.meetOffs (s : State) : State :=
  (s.scanner.handed.filterMap Handed.wakes).foldl State.meetOff s

/-- R162, R166, step 1: the frame wakes a part that conserves, then counts for controller supervision. -/
def State.frameArrives (s : State) : State :=
  match s.mode.mode with
  | .active => s.countFrame
  | .conserve => (s.wake .controller).countFrame.meetOffs

/-- R166: a valid frame completes; `serve` acts on its request and composes the reply. -/
def State.completeFrame (s : State) (serve : State → State × Frame) : State :=
  let s := s.frameArrives
  if Config.replyPlaces ≤ s.sli.replies.length then s.dropRequest
  else (serve s).1.queueReply (serve s).2

/-- R165: a complete frame leaves the hunter HUNTING. -/
def State.frameTaken (s : State) : State :=
  { s with sli := { s.sli with hunter := .hunting } }

end Sys2Proof.Machine
end

