-- ==== Sys2Proof/Machine/AlertRequests.lean ====
section
/-! DEFINITION. ALERT and CANCEL_ALERT (R90 to R92, R104). -/

namespace Sys2Proof.Machine

/-! ### Member selection (R91) -/

/-- What member selection finds. -/
structure Selection where
  members : List LineNo
  dropped : List LineNo
  load : Nat
  deriving DecidableEq, Repr

/-- R91: later candidates are taken while the running sum, with their own load, does not exceed the ring capacity; the
first misfit and every candidate after it are dropped. -/
def State.selectAlong (s : State) (sum : Nat) : List LineNo → Selection
  | [] => { members := [], dropped := [], load := sum }
  | n :: rest =>
    if sum + (s.line n).ringerLoad ≤ s.ring.capacity then
      let others := s.selectAlong (sum + (s.line n).ringerLoad) rest
      { others with members := n :: others.members }
    else { members := [], dropped := n :: rest, load := sum }

/-- R91: the first candidate is always taken, at the smaller of its load and the ring capacity. -/
def State.select (s : State) : List LineNo → Option Selection
  | [] => none
  | n :: rest =>
    let others := s.selectAlong (min (s.line n).ringerLoad s.ring.capacity) rest
    some { others with members := n :: others.members }

/-- R91: the candidates of a target: the IDLE line named, or the IDLE lines of the group in ascending order. -/
def State.candidates (s : State) : Target → List LineNo
  | .line n => if (s.line n).callState = .idle then [n] else []
  | .group g => allLines.filter fun n => decide ((s.line n).callState = .idle ∧ (s.line n).alertGroup = some g)

/-! ### ALERT (R90, R92) -/

/-- R88: the lowest-numbered empty position. -/
def State.emptyPosition (s : State) : Option AlertPos :=
  allPositions.find? fun p => decide (s.alertAt p = none)

/-- R92: the record of an accepted alert. -/
def newAlert (s : State) (number : Nat) (target : Target) (sel : Selection) (cadence : CadenceNo) (timeout : Nat)
    (bearer : BearerNo) : AlertRecord :=
  { number := number, target := target, members := sel.members, dropped := sel.dropped, cadence := cadence,
    timeout := timeout, state := .queued, phase := none, bearer := bearer, answering := none, cause := none,
    load := sel.load, reportPending := false, expires := some (s.now + 1000 * timeout), burst := none }

/-- R36, R92, step 3: a member goes from IDLE to ALERTED. -/
def State.alertMember (number : Nat) (s : State) (n : LineNo) : State :=
  s.modLine n fun r => { r with callState := .alerted, alert := some number }

/-- R92: acceptance, its six steps, in the state in which the bearer has left its source. -/
def State.acceptAlert (s : State) (pos : AlertPos) (a : AlertRecord) : State :=
  let s := s.setAlert pos (some a)
  let s := s.modBearer a.bearer fun r =>
    { r with state := .reserved, downReason := none, holder := some (.alert a.number) }
  let s := a.members.foldl (State.alertMember a.number) s
  let s := { s with ring := { s.ring with accepted := s.ring.accepted ++ [pos] } }
  s.tryPlacement.examine

/-- Table 11-6: what an accepted ALERT replies, as the placement try left the alert. -/
def acceptedOctets (pos : AlertPos) (a : AlertRecord) : List Octet :=
  [octet pos.1, octet a.state.code, orAbsent (a.phase.map Fin.val), octet a.bearer.1, octet a.load, octet a.timeout]
    ++ lineList a.members ++ lineList a.dropped

/-- R90: checks 5 to 8 and acceptance. -/
def State.offerAlert (s : State) (pos : AlertPos) (number : Nat) (target : Option Target) (cadence : CadenceNo)
    (timeout : Nat) : State × Frame :=
  match target with
  | none => (s, reply 0x10 .badTarget [octet number])
  | some t =>
    match s.select (s.candidates t) with
    | none => (s, reply 0x10 .busy [octet number])
    | some sel =>
      if s.power.budget < s.committed + Config.answerReservePU then (s, reply 0x10 .noPower [octet number])
      else if s.highway.state = .down then (s, reply 0x10 .noBearer [octet number])
      else
        match s.bearerForAlert with
        | none => (s, reply 0x10 .noBearer [octet number])
        | some (b, taken) =>
          let a := newAlert s number t sel cadence timeout b
          let done := taken.acceptAlert pos a
          (done, reply 0x10 .ok (octet number :: acceptedOctets pos ((done.alertAt pos).getD a)))

/-- R90: ALERT, its checks in the order of Table 5-3. -/
def State.serveAlert (number kind target cadence timeout : Nat) (s : State) : State × Frame :=
  match s.emptyPosition with
  | none => (s, reply 0x10 .tableFull [octet number])
  | some pos =>
    if number = 0 then (s, reply 0x10 .badRecord [octet number])
    else if (s.findAlert number).isSome then (s, reply 0x10 .duplicate [octet number])
    else
      match ringCadenceOf cadence, targetOf kind target with
      | some c, some t => s.offerAlert pos number t c (clampRingTimeout timeout)
      | _, _ => (s, reply 0x10 .badRecord [octet number])

/-! ### CANCEL_ALERT (R104) -/

/-- Table 11-6: state, answering line and abort cause. -/
def endingOctets (a : AlertRecord) : List Octet :=
  [octet a.state.code, orAbsent (a.answering.map Fin.val), orAbsent (a.cause.map AlertCause.code)]

/-- R104: CANCEL_ALERT. -/
def State.serveCancelAlert (number : Nat) (s : State) : State × Frame :=
  match s.findAlert number with
  | none => (s, reply 0x11 .unknownAlert [octet number])
  | some pos =>
    match s.alertAt pos with
    | none => (s, reply 0x11 .unknownAlert [octet number])
    | some a =>
      if a.state.outstanding then
        (s.accounted fun t => t.endReturning pos .cancelled,
         reply 0x11 .ok (octet number :: endingOctets (a.ended .cancelled none none)))
      else (s, reply 0x11 .tooLate (octet number :: endingOctets a))

end Sys2Proof.Machine
end

