-- ==== Sys2Proof/Machine/BearerRequests.lean ====
section
/-! DEFINITION. The requests on bearers (R82, R84, R137): BLOCK_BEARER, UNBLOCK_BEARER and TEST_BEARER. -/

namespace Sys2Proof.Machine

/-! ### BLOCK_BEARER (R82, Table 4-4) -/

/-- A bearer becomes BLOCKED; BLOCKED is made pending. -/
def State.blockNow (s : State) (b : BearerNo) : State :=
  (s.modBearer b fun r => { r with state := .blocked, downReason := none, holder := none }).addBearerEvent b .blocked

/-- A block waits for the bearer to be given up (R83). -/
def State.blockLater (s : State) (b : BearerNo) : State :=
  s.modBearer b fun r => { r with blockPending := true }

/-- A bearer leaves the free list from any position (R70). -/
def State.leaveFreeList (s : State) (b : BearerNo) : State :=
  { s with pool := { s.pool with freeList := s.pool.freeList.erase b } }

/-- R82: BLOCK_BEARER by bearer state. -/
def State.blockBearer (s : State) (b : BearerNo) : State :=
  match (s.bearer b).state, (s.bearer b).downReason with
  | .free, _ => (s.leaveFreeList b).blockNow b
  | .busy, _ => s.blockLater b
  | .reserved, _ => s.blockLater b
  | .testing, _ => (s.abortTest .block).blockNow b
  | .blocked, _ => s
  | .down, some .testFailed => s.blockNow b
  | .down, _ => s.blockLater b

/-- The state and the block pending flag of a bearer. -/
def State.blockOctets (s : State) (b : BearerNo) : List Octet :=
  [octet (s.bearer b).state.code, yesNo (s.bearer b).blockPending]

/-- R82: BLOCK_BEARER. -/
def State.serveBlockBearer (bearer : Nat) (s : State) : State × Frame :=
  match bearerNo bearer with
  | none => (s, reply 0x14 .badTarget [octet bearer])
  | some b => (s.blockBearer b, reply 0x14 .ok (octet bearer :: (s.blockBearer b).blockOctets b))

/-! ### UNBLOCK_BEARER (R84, Table 4-5) -/

/-- R84: UNBLOCK_BEARER by bearer state; absent where it is refused. -/
def State.unblockBearer (s : State) (b : BearerNo) : Option State :=
  match (s.bearer b).state, (s.bearer b).downReason with
  | .blocked, _ =>
    if s.highway.state = .down then
      some ((s.modBearer b fun r => { r with state := .down, downReason := some .highway }).addBearerEvent b .unblocked)
    else some ((s.addBearerEvent b .unblocked).enterFree b)
  | .down, some .testFailed => some ((s.addBearerEvent b .unblocked).enterFree b)
  | .down, _ | .busy, _ | .reserved, _ =>
    if (s.bearer b).blockPending then some (s.modBearer b fun r => { r with blockPending := false }) else none
  | .free, _ => none
  | .testing, _ => none

/-- R84: UNBLOCK_BEARER. -/
def State.serveUnblockBearer (bearer : Nat) (s : State) : State × Frame :=
  match bearerNo bearer with
  | none => (s, reply 0x15 .badTarget [octet bearer])
  | some b =>
    match s.unblockBearer b with
    | none => (s, reply 0x15 .wrongState (octet bearer :: s.blockOctets b))
    | some done => (done, reply 0x15 .ok (octet bearer :: done.blockOctets b))

/-! ### TEST_BEARER (R137) -/

/-- R137: the check of the bearer's state, passed only by FREE (checks 4 and 5). -/
def testRefusal : BearerState → Option Result
  | .free => none
  | .busy => some .busy
  | .reserved => some .busy
  | .testing => some .busy
  | .blocked => some .wrongState
  | .down => some .wrongState

/-- R137, R138: a test context as it starts. -/
def TestContext.started (b : BearerNo) (duration threshold : Nat) (inject yields : Bool) (now : Nat) : TestContext :=
  { bearer := b, duration := duration, threshold := threshold, inject := inject, yields := yields, began := now,
    locked := false, errorCount := 0, generator := BitVec.allOnes 15, invertNext := false, sentBit := none,
    injections := 0, checker := Checker.hunting }

/-- R137: a FREE bearer is lent to the Bearer Tester. -/
def State.startTest (s : State) (t : TestContext) : State :=
  { (s.leaveFreeList t.bearer).modBearer t.bearer fun r =>
      { r with state := .testing, downReason := none, holder := none } with test := some t }

/-- R137: TEST_BEARER, its checks in order. The bearer state of an accepted request is TESTING (log entry 11). -/
def State.serveTestBearer (bearer duration threshold inject yields : Nat) (s : State) : State × Frame :=
  match bearerNo bearer with
  | none => (s, reply 0x16 .badTarget [octet bearer, 0xFF])
  | some b =>
    let refuse := fun (r : Result) => (s, reply 0x16 r [octet bearer, octet (s.bearer b).state.code])
    match yesOf inject, yesOf yields with
    | some i, some y =>
      if s.test.isSome then refuse .busy
      else
        match testRefusal (s.bearer b).state with
        | some r => refuse r
        | none =>
          let t := TestContext.started b (clampDuration duration) threshold i y s.now
          (s.startTest t,
           reply 0x16 .ok [octet bearer, octet ((s.startTest t).bearer b).state.code, octet t.duration, octet t.threshold,
             yesNo i, yesNo y])
    | _, _ => refuse .badRecord

end Sys2Proof.Machine
end

