-- ==== Sys2Proof/Machine/LineRequests.lean ====
section
/-! DEFINITION. The requests on lines (R18, R19, R33, R41): LINE_CONFIG, ENERGIZE, DEENERGIZE and CLEAR. -/

namespace Sys2Proof.Machine

/-! ### LINE_CONFIG (R41) -/

/-- The five config fields as applied. -/
structure LineSettings where
  signalling : Signalling
  ringerLoad : Nat
  alertGroup : Option (Fin 32)
  ceiling : Ceiling
  restricted : Bool
  deriving DecidableEq, Repr

/-- R41: the settings a LINE_CONFIG carries, absent where check 2 refuses a value. -/
def lineSettings (signalling ringerLoad alertGroup ceiling restricted : Nat) : Option LineSettings :=
  match signallingOf signalling, ceilingOf ceiling, yesOf restricted with
  | some g, some c, some y =>
    some { signalling := g, ringerLoad := clampRingerLoad ringerLoad, alertGroup := alertGroupOf alertGroup,
           ceiling := c, restricted := y }
  | _, _, _ => none

/-- R41: the config fields are written at once. -/
def LineRecord.configured (r : LineRecord) (c : LineSettings) : LineRecord :=
  { r with signalling := c.signalling, ringerLoad := c.ringerLoad, alertGroup := c.alertGroup, ceiling := c.ceiling,
           restricted := c.restricted }

/-- The five applied values. -/
def settingOctets (c : LineSettings) : List Octet :=
  [octet c.signalling.code, octet c.ringerLoad, orAbsent (c.alertGroup.map Fin.val), octet c.ceiling.code,
   yesNo c.restricted]

/-- Whether LINE_CONFIG is taken in a call state (Table 2-7). -/
def CallState.configurable : CallState → Bool
  | .deenergized | .idle => true
  | .denied | .dial | .waitBearer | .alerted | .connected | .clearing | .lockout => false

/-- R41: LINE_CONFIG, its checks in order. -/
def State.serveLineConfig (line signalling ringerLoad alertGroup ceiling restricted : Nat) (s : State) : State × Frame :=
  match lineNo line with
  | none => (s, reply 0x08 .badTarget [octet line])
  | some n =>
    match lineSettings signalling ringerLoad alertGroup ceiling restricted with
    | none => (s, reply 0x08 .badRecord [octet line])
    | some c =>
      if (s.line n).callState.configurable then
        (s.modLine n fun r => r.configured c, reply 0x08 .ok (octet line :: settingOctets c))
      else (s, reply 0x08 .wrongState [octet line])

/-! ### ENERGIZE and DEENERGIZE (R18, R19) -/

/-- R18: the disposition of one line of an ENERGIZE, by its code, and its effect. -/
def State.energizeOne (s : State) (n : LineNo) : State × Nat :=
  if (s.line n).callState ≠ .deenergized then (s, 2)
  else if n ∈ s.scanner.energizeList then (s, 1)
  else (s.joinEnergizeList n, 0)

/-- R19: the disposition of one line of a DEENERGIZE, by its code, and its effect. A line whose OFF transition has been
declared in IDLE is BUSY, though the transition still waits to be taken (R162), and the transition goes on waiting. -/
def State.deenergizeOne (s : State) (n : LineNo) : State × Nat :=
  match (s.line n).callState with
  | .idle => if Handed.off n ∈ s.scanner.handed then (s, 3) else (s.deenergizeLine n, 0)
  | .deenergized =>
    if n ∈ s.scanner.energizeList then (s.setEnergizeList (s.scanner.energizeList.erase n), 1) else (s, 2)
  | .denied | .dial | .waitBearer | .alerted | .connected | .clearing | .lockout => (s, 3)

/-- The lines of a request taken in request order, with the octets of their dispositions. -/
def State.takeLines (one : State → LineNo → State × Nat) (s : State) : List LineNo → State × List Octet
  | [] => (s, [])
  | n :: rest =>
    let done := one s n
    let others := done.1.takeLines one rest
    (others.1, octet n.1 :: octet done.2 :: others.2)

/-- R18, R19: the checks that ENERGIZE and DEENERGIZE share, then the lines in order. That the lines and dispositions of the
reply follow the result without a count octet is read from Table 11-6 (DEDUCED, log entry 10). -/
def State.serveLines (type : Octet) (one : State → LineNo → State × Nat) (lines : List Nat) (s : State) :
    State × Frame :=
  if lines.length = 0 ∨ 24 < lines.length then (s, reply type .badRecord [])
  else
    match lineNos lines with
    | none => (s, reply type .badTarget [])
    | some ns =>
      let done := s.takeLines one ns
      (done.1, reply type .ok done.2)

/-- R18: ENERGIZE. -/
def State.serveEnergize (lines : List Nat) (s : State) : State × Frame :=
  s.serveLines 0x09 State.energizeOne lines

/-- R19: DEENERGIZE. -/
def State.serveDeenergize (lines : List Nat) (s : State) : State × Frame :=
  s.serveLines 0x0A State.deenergizeOne lines

/-! ### CLEAR (R33) -/

/-- R33: what a line in DIAL, WAIT_BEARER or CONNECTED holds is ended; absent in any other state. -/
def State.endHeld (s : State) (n : LineNo) : Option State :=
  match (s.line n).callState with
  | .dial => some (s.leaveDial n)
  | .waitBearer => some (s.leaveQueue n)
  | .connected => some (s.handBack n)
  | .deenergized | .idle | .denied | .alerted | .clearing | .lockout => none

/-- R33: CLEAR, its checks in order. -/
def State.serveClear (line tone : Nat) (s : State) : State × Frame :=
  match lineNo line with
  | none => (s, reply 0x0B .badTarget [octet line])
  | some n =>
    match clearToneOf tone with
    | none => (s, reply 0x0B .badRecord [octet line])
    | some t =>
      match s.endHeld n with
      | none => (s, reply 0x0B .wrongState [octet line])
      | some ended =>
        (ended.toClearing n t .cleared, reply 0x0B .ok [octet line, octet (s.line n).callState.code])

end Sys2Proof.Machine
end

