-- ==== Sys2Proof/Machine/PartRequests.lean ====
section
/-! DEFINITION. The requests on the part as a whole: SET_POWER (R121), SET_TIMERS (R2, R34, R51, R153), LOAD_PLAN (R58),
LOAD_CADENCE (R132, R133), CONSERVE (R157, R158), RESTART (R171) and a malformed record (R167). -/

namespace Sys2Proof.Machine

/-! ### SET_POWER (R121) -/

/-- R99, R121, step 2: the Ring Scheduler takes a ring capacity; on a cut every phase is brought within it. -/
def State.setCapacity (s : State) (capacity : Nat) : State :=
  let t := { s with ring := { s.ring with capacity := capacity } }
  if capacity < s.ring.capacity then t.fitPhases else t

/-- R121, steps 3 and 4: the budget is replaced, and shedding runs if the total exceeds it. -/
def State.setBudget (s : State) (budget : Nat) : State :=
  let t := { s with power := { s.power with budget := budget } }
  if budget < t.committed then t.shed else t

/-- R121: the steps of SET_POWER on clamped values. A capacity cut that lowered nothing is followed by the placement try
alone (R97, R99). -/
def State.setPower (s : State) (budget capacity : Nat) : State :=
  let t := (s.setCapacity capacity).setBudget budget
  (if t.committed < s.committed ∨ s.power.budget < budget ∨ s.ring.capacity < capacity then t.reevaluate
   else if capacity < s.ring.capacity then t.tryPlacement
   else t).examine

/-- R121: SET_POWER. -/
def State.serveSetPower (budget capacity : Nat) (s : State) : State × Frame :=
  (s.setPower (clampBudget budget) (clampCapacity capacity),
   reply 0x18 .ok (twoOctets (clampBudget budget) ++ [octet (clampCapacity capacity)]))

/-! ### SET_TIMERS (R2, R34, R51, R153) -/

/-- The six values as applied. -/
def periodsOf (sample firstDigit interdigit waitLimit clearing supervision : Nat) : Periods :=
  { sample := clampSample sample, firstDigit := clampFirstDigit firstDigit, interdigit := clampInterdigit interdigit,
    waitLimit := clampWaitLimit waitLimit, clearing := clampClearing clearing,
    supervision := clampSupervision supervision }

/-- R153: the timer periods are replaced; a changed supervision time restarts the supervision timer of a PRESENT
controller. Running line timers keep their expiry. -/
def State.setPeriods (s : State) (p : Periods) : State :=
  let t := { s with periods := p }
  if p.supervision ≠ s.periods.supervision ∧ s.sli.controller = .present then t.startSupervision else t

/-- The six applied values. -/
def periodOctets (p : Periods) : List Octet :=
  [octet p.sample, octet p.firstDigit, octet p.interdigit, octet p.waitLimit, octet p.clearing, octet p.supervision]

/-- SET_TIMERS. -/
def State.serveSetTimers (sample firstDigit interdigit waitLimit clearing supervision : Nat) (s : State) :
    State × Frame :=
  let p := periodsOf sample firstDigit interdigit waitLimit clearing supervision
  (s.setPeriods p, reply 0x19 .ok (periodOctets p))

/-! ### LOAD_PLAN (R58) -/

/-- R58: LOAD_PLAN. -/
def State.serveLoadPlan (count : Nat) (entries : List PlanRow) (s : State) : State × Frame :=
  match planOf count entries with
  | none => (s, reply 0x1A .badRecord [])
  | some plan =>
    ({ s with collector := { s.collector with plan := plan } },
     reply 0x1A .ok (counted (plan.map fun e => [octet e.length])))

/-! ### LOAD_CADENCE (R132, R133) -/

/-- R132: LOAD_CADENCE. -/
def State.serveLoadCadence (entry : Nat) (durations : List Nat) (s : State) : State × Frame :=
  match cadenceNo entry with
  | none => (s, reply 0x1B .badRecord [])
  | some e =>
    if durations.length = 0 ∨ 4 < durations.length then (s, reply 0x1B .badRecord [])
    else
      let applied := appliedSegments e durations
      (s.storeCadence e applied, reply 0x1B .ok (octet entry :: counted (applied.map twoOctets)))

/-! ### CONSERVE (R157, R158) -/

/-- The bit of a blocker (Table 11-4). -/
def Blocker.bit : Blocker → Nat
  | .energizing => 1
  | .alerts => 2
  | .test => 4
  | .reports => 8
  | .replies => 16

/-- Table 11-6: the lines that are not quiet, each with its call state, and the set of blockers. -/
def State.notQuietOctets (s : State) : List Octet :=
  counted (s.unquietLines.map fun n => [octet n.1, octet (s.line n).callState.code])
    ++ [octet (s.blockers.map Blocker.bit).sum]

/-- R157: CONSERVE. -/
def State.serveConserve (limit : Nat) (s : State) : State × Frame :=
  if s.unquietLines = [] ∧ s.blockers = [] then (s.enterConserve limit, reply 0x1E .ok (twoOctets limit))
  else (s, reply 0x1E .notQuiet (twoOctets limit ++ s.notQuietOctets))

/-! ### RESTART (R171) -/

/-- R110, R171: the part events of a RESTART. -/
def restartEvents (p : Power) : List PartEvent :=
  if p.overcommit then [.started, .overcommitSet] else [.started]

/-- Table 11-1, the RESTART column, before the reply joins the queue. -/
def Sli.restarted (l : Sli) (p : Power) : Sli :=
  { l with replies := [], reportPosition := 23, overrun := false, events := restartEvents p, controller := .lost,
           supervision := none }

/-- R171: every block is restarted in one action, and configuration is kept. -/
def State.restart (s : State) : State :=
  { s with
    scanner := Scanner.started s.straps s.now s.scanner.lastSample s.scanner.loops
    lines := s.lines.map LineRecord.restarted
    collector := s.collector.restarted
    pool := s.pool.restarted
    ring := s.ring.restarted
    power := s.power.restarted
    tones := s.tones.restarted
    test := none
    highway := Highway.initial
    sli := s.sli.restarted s.power.restarted
    mode := ModeControl.initial }

/-- R171: RESTART. -/
def State.serveRestart (s : State) : State × Frame :=
  (s.restart, reply 0x1F .ok [])

/-! ### A malformed record (R167) -/

/-- R167: a frame of unknown type or wrong body length is answered with BAD_RECORD and nothing is acted on. -/
def State.serveUnknown (type : Octet) (s : State) : State × Frame :=
  (s, reply type .badRecord [])

end Sys2Proof.Machine
end

