-- ==== Sys2Proof/Machine/QueryRequests.lean ====
section
/-! DEFINITION. The three queries (R42, R87, R124): PART_QUERY, LINE_QUERY and BEARER_QUERY. -/

namespace Sys2Proof.Machine

/-- R124, R170: PART_QUERY shows the part events and the part snapshot and clears nothing. -/
def State.servePartQuery (s : State) : State × Frame :=
  (s, reply 0x01 .ok (partEventField s.sli.events ++ s.partSnapshot))

/-- R42: LINE_QUERY. -/
def State.serveLineQuery (line : Nat) (s : State) : State × Frame :=
  match lineNo line with
  | none => (s, reply 0x02 .badTarget [])
  | some n => (s, reply 0x02 .ok (lineEventField (s.line n).events ++ s.lineSnapshot n))

/-- R87: BEARER_QUERY, with the free list and the seizure queue, head first. -/
def State.serveBearerQuery (bearer : Nat) (s : State) : State × Frame :=
  match bearerNo bearer with
  | none => (s, reply 0x03 .badTarget [])
  | some b =>
    (s, reply 0x03 .ok (bearerEventField (s.bearer b).events ++ s.bearerSnapshot b
      ++ counted (s.pool.freeList.map fun f => [octet f.1])
      ++ counted (s.pool.queue.map fun e => [octet e.1.1, octet e.2.code])))

end Sys2Proof.Machine
end

