-- ==== Sys2Proof/Machine/Serving.lean ====
section
/-! DEFINITION. The request of a valid frame, acted on by the block that owns it (R166, R167), and what arrives on the
supervisory line octet by octet (R165). -/

namespace Sys2Proof.Machine

/-- R166, step 3: the block that owns a request acts on it. -/
def Request.serve : Request → State → State × Frame
  | .partQuery => State.servePartQuery
  | .lineQuery line => State.serveLineQuery line
  | .bearerQuery bearer => State.serveBearerQuery bearer
  | .lineConfig line signalling load group ceiling restricted =>
    State.serveLineConfig line signalling load group ceiling restricted
  | .energize lines => State.serveEnergize lines
  | .deenergize lines => State.serveDeenergize lines
  | .clear line tone => State.serveClear line tone
  | .alert number kind target cadence timeout => State.serveAlert number kind target cadence timeout
  | .cancelAlert number => State.serveCancelAlert number
  | .blockBearer bearer => State.serveBlockBearer bearer
  | .unblockBearer bearer => State.serveUnblockBearer bearer
  | .testBearer bearer duration threshold inject yields =>
    State.serveTestBearer bearer duration threshold inject yields
  | .setPower budget capacity => State.serveSetPower budget capacity
  | .setTimers sample first inter wait clearing supervision =>
    State.serveSetTimers sample first inter wait clearing supervision
  | .loadPlan count entries => State.serveLoadPlan count entries
  | .loadCadence entry durations => State.serveLoadCadence entry durations
  | .conserve limit => State.serveConserve limit
  | .restart => State.serveRestart
  | .unknown type => State.serveUnknown type

/-- R166: a valid frame completes. -/
def State.takeFrame (s : State) (f : Frame) : State :=
  s.completeFrame (Request.serve f.request)

/-- R165: octets are taken by the hunter standing at `h`; the frames found in them are acted on in order. -/
def State.takeOctets (s : State) (h : Hunter) (octets : List Octet) : State :=
  let found := h.hunt octets
  found.2.foldl State.takeFrame { s with sli := { s.sli with hunter := found.1, lastOctet := s.now } }

/-- R165: where the hunter stands for an octet that arrives now: on a gap it has returned to HUNTING. -/
def State.hunterNow (s : State) : Hunter :=
  if s.sli.hunter.inFrame ∧ s.sli.lastOctet + Config.octetGapMs < s.now then .hunting else s.sli.hunter

end Sys2Proof.Machine
end

