-- ==== Sys2Proof/Machine/Transmitter.lean ====
section
/-! DEFINITION. The transmitter (R163, R168 to R170): what it chooses, and the frames it begins. -/

namespace Sys2Proof.Machine

/-- What the transmitter can begin. -/
inductive Choice where
  | reply
  | part
  | alert (p : AlertPos)
  | bearer (b : BearerNo)
  | line (n : LineNo)
  deriving DecidableEq, Repr

/-- Whether a position holds a record whose report pending flag is yes. -/
def flagged : Option AlertRecord → Bool
  | some a => a.reportPending
  | none => false

/-- R168, item 3: the lowest flagged alert table position. -/
def State.flaggedAlert (s : State) : Option AlertPos :=
  allPositions.find? fun p => flagged (s.alertAt p)

/-- R168, item 4: the lowest-numbered bearer with pending events. -/
def State.eventfulBearer (s : State) : Option BearerNo :=
  allBearers.find? fun b => decide ((s.bearer b).events ≠ [])

/-- R168, item 5: the lines counted upward from the one after the line report position, wrapping from 23 to 0. -/
def State.linesInTurn (s : State) : List LineNo :=
  allLines.map fun k => s.sli.reportPosition + 1 + k

/-- R168, item 5: the first line in turn with pending events. -/
def State.eventfulLine (s : State) : Option LineNo :=
  s.linesInTurn.find? fun n => decide ((s.line n).events ≠ [])

/-- R168: the first that exists of the five. The controller state has no part in it: alert reports are sent while it is
LOST as well, by R154, though R107 has them wait until transmission resumes (DEDUCED, log entry 33). -/
def State.choice (s : State) : Option Choice :=
  if s.sli.replies ≠ [] then some .reply
  else if s.sli.events ≠ [] then some .part
  else
    match s.flaggedAlert with
    | some p => some (.alert p)
    | none =>
      match s.eventfulBearer with
      | some b => some (.bearer b)
      | none => s.eventfulLine.map .line

/-- R163: the rate the RATE strap selects, in bit/s. -/
def Straps.bitRate (p : Straps) : Nat :=
  if p.rate then 57600 else 9600

/-- R163, R164: the milliseconds a frame takes on the line, ten bits for an octet, to the nearest (log entry 12). -/
def Straps.frameMs (p : Straps) (f : Frame) : Nat :=
  (f.octets.length * 10 * 1000 + p.bitRate / 2) / p.bitRate

/-- R168: the transmitter is SENDING a frame. -/
def State.send (s : State) (f : Frame) : State :=
  { s with sli := { s.sli with sending := some { frame := f, ends := s.now + s.straps.frameMs f } } }

/-- R166, R168: the reply at the head of the queue leaves it as its transmission begins. -/
def State.beginReply (s : State) : State :=
  match s.sli.replies with
  | [] => s
  | f :: rest => { s with sli := { s.sli with replies := rest } }.send f

/-- R170: a PART_REPORT begins; the set is emptied and an overrun flag that the snapshot carries set is cleared. -/
def State.beginPartReport (s : State) : State :=
  { s with sli := { s.sli with events := [], overrun := false } }.send s.partReportFrame

/-- R89: the record at a position is freed. -/
def State.freeAlert (s : State) (p : AlertPos) : State :=
  let s1 := s.setAlert p none
  { s1 with ring := { s1.ring with accepted := s1.ring.accepted.erase p } }

/-- R89, R109: an ALERT_REPORT begins; the flag becomes no, and a record carrying a final state is freed. -/
def State.beginAlertReport (s : State) (p : AlertPos) : State :=
  match s.alertAt p with
  | none => s
  | some a =>
    (if a.state.outstanding then s.setAlert p (some { a with reportPending := false }) else s.freeAlert p).send
      (alertReportFrame p a)

/-- R86: a BEARER_REPORT begins and the bearer's set is emptied. -/
def State.beginBearerReport (s : State) (b : BearerNo) : State :=
  (s.modBearer b fun r => { r with events := [] }).send (s.bearerReportFrame b)

/-- R43, R168: a LINE_REPORT begins; the line's set is emptied, its flash count is 0 and it becomes the line report
position. -/
def State.beginLineReport (s : State) (n : LineNo) : State :=
  { s.modLine n fun r => { r with events := [], flashCount := 0 } with
    sli := { s.sli with reportPosition := n } }.send (s.lineReportFrame n)

/-- R168: the transmitter begins what it has chosen. -/
def State.begin (s : State) : Option Choice → State
  | none => s
  | some .reply => s.beginReply
  | some .part => s.beginPartReport
  | some (.alert p) => s.beginAlertReport p
  | some (.bearer b) => s.beginBearerReport b
  | some (.line n) => s.beginLineReport n

/-- R168: the transmitter may begin only while it is IDLE. -/
def State.mayBegin (s : State) (c : Choice) : Bool :=
  decide (s.sli.sending = none ∧ s.choice = some c)

/-- R168: the frame in transmission ends and the transmitter chooses again. -/
def State.endFrame (s : State) : State :=
  match s.sli.sending with
  | none => s
  | some _ =>
    let t := { s with sli := { s.sli with sending := none } }
    t.begin t.choice

end Sys2Proof.Machine
end

