-- ==== Sys2Proof/Machine/Clock.lean ====
section
/-! DEFINITION. Time: the events of the part's own that have fallen due, and one millisecond passing (log entry 1). -/

namespace Sys2Proof.Machine

/-! ### Which events have fallen due -/

/-- A command that is due if a condition holds. -/
def dueIf (b : Bool) (c : Instr) : List Instr :=
  if b then [c] else []

/-- The command that is the expiry of a line's state timer in a call state (R38). -/
def timeoutCommand (k : TimerKind) (c : CallState) (n : LineNo) : Option Instr :=
  match k, c with
  | .firstDigit, .dial => some (.firstDigitTimeout n)
  | .interdigit, .dial => some (.interdigitTimeout n)
  | .wait, .dial => some (.receiverWaitTimeout n)
  | .wait, .waitBearer => some (.queueWaitTimeout n)
  | .clearing, .clearing => some (.clearingTimeout n)
  | .howler, .lockout => some (.howlerTimeout n)
  | _, _ => none

/-- The expiry of a line's state timer, if it is due (R38). -/
def State.dueTimeout (s : State) (n : LineNo) : List Instr :=
  match (s.line n).timer with
  | none => []
  | some t => if t.expires ≤ s.now then (timeoutCommand t.kind (s.line n).callState n).toList else []

/-- The release and gap points of a line that are reached and not held (R8, R9, R12). -/
def State.dueOfScanner (s : State) (n : LineNo) : List Instr :=
  dueIf (reached s.now (s.scan n).releasePoint && !((s.line n).callState.isRelease && s.releaseHeld n))
      (.releasePointReached n)
    ++ dueIf (reached s.now (s.scan n).gapPoint && !s.gapHeld n) (.gapPointReached n)

/-- What is due on a line. -/
def State.dueOfLine (s : State) (n : LineNo) : List Instr :=
  s.dueOfScanner n ++ s.dueTimeout n

/-- What is due on the alert at a position: its ring timeout and the end of its burst's segment (R103, R128). -/
def State.dueOfAlert (s : State) (p : AlertPos) : List Instr :=
  match s.alertAt p with
  | none => []
  | some a =>
    dueIf (reached s.now a.expires && a.state.outstanding) (.ringTimeout p)
      ++ dueIf (reached s.now (a.burst.map Burst.ends)) (.ringSegmentEnd p)

/-- The window start of a phase, if the ring clock stands at it and it has not been taken (R93, R94). -/
def State.dueOfPhase (s : State) (p : PhaseNo) : List Instr :=
  dueIf (decide (s.mode.mode = .active ∧ s.ring.clock = windowStart p ∧ s.ring.windowTaken = false)) (.phaseWindowStart p)

/-- The end of the present segment of a tone source (R127). -/
def State.dueOfTone (s : State) (k : ToneKind) : List Instr :=
  dueIf (reached s.now (s.toneSegmentEnds k)) (.toneSegmentEnd k)

/-- Whether the next injection of a test is due: a whole second of test time that falls before the duration (R140). -/
def TestContext.injectionDue (t : TestContext) (now : Nat) : Bool :=
  decide (t.inject ∧ t.began + 1000 * (t.injections + 1) ≤ now ∧ t.injections + 1 < t.duration)

/-- What is due on the running test (R140, R141). -/
def State.dueOfTest (s : State) : List Instr :=
  match s.test with
  | none => []
  | some t =>
    dueIf (t.injectionDue s.now) .testInjection ++ dueIf (decide (t.began + 1000 * t.duration ≤ s.now)) .testDurationExpiry

/-- What is due at the Highway Monitor (R147 to R149). A loss comes 1 ms after the pulse it is measured from. -/
def State.dueOfHighway (s : State) : List Instr :=
  dueIf (decide (s.mode.mode = .active) && reached s.now (s.highway.lossFrom.map (· + 1))) .highwayLoss
    ++ dueIf (reached s.now s.highway.restore) .highwayRestore
    ++ dueIf (reached s.now s.highway.grace) .graceTimerExpiry

/-- Whether the frame in transmission has ended (R168). -/
def State.frameEnded (s : State) : Bool :=
  match s.sli.sending with
  | none => false
  | some f => decide (f.ends ≤ s.now)

/-- The command that is the beginning of a chosen frame. -/
def Choice.command : Choice → Instr
  | .reply => .replyTransmit
  | .part => .partReport
  | .alert _ => .alertReport
  | .bearer _ => .bearerReport
  | .line _ => .lineReport

/-- What an IDLE transmitter begins (R168). -/
def State.dueOfTransmitter (s : State) : List Instr :=
  match s.sli.sending with
  | some _ => []
  | none => (s.choice.map Choice.command).toList

/-- What is due at the SLI and at Mode Control (R154, R160, R165, R168). -/
def State.dueOfSli (s : State) : List Instr :=
  dueIf (s.sli.hunter.inFrame && decide (s.sli.lastOctet + Config.octetGapMs < s.now)) .receiveGap
    ++ dueIf s.frameEnded .frameSent
    ++ s.dueOfTransmitter
    ++ dueIf (reached s.now s.sli.supervision) .supervisionTimeout
    ++ dueIf (decide (s.mode.mode = .conserve) && reached s.now s.mode.limit) .limitTimerExpiry

/-- The samples to be taken at the sample instant that stands, each of what its loop detector shows (R2). -/
def State.dueSamples (s : State) : List Instr :=
  s.scanner.unsampled.map fun n => .sampleInstant n (s.loop n)

/-- Every event of the part's own that has fallen due and that a command stands for. -/
def State.dueCommands (s : State) : List Instr :=
  s.dueSamples
    ++ dueIf (reached s.now s.scanner.groupTimer) .groupTimerExpiry
    ++ (allLines.map s.dueOfLine).flatten
    ++ (allPositions.map s.dueOfAlert).flatten
    ++ (allPhases.map s.dueOfPhase).flatten
    ++ ([ToneKind.dial, .busy, .congestion, .howler].map s.dueOfTone).flatten
    ++ s.dueOfTest
    ++ s.dueOfHighway
    ++ s.dueOfSli

/-- An event of the part's own: one that a command stands for, or the taking of a hook signal handed over (R14). -/
inductive DueEvent where
  | command (c : Instr)
  | signal (h : Handed)
  deriving DecidableEq, Repr

/-- Every event of the part's own that has fallen due. A signal is taken as soon as it may be. -/
def State.dueEvents (s : State) : List DueEvent :=
  s.dueCommands.map .command ++ s.scanner.handed.map .signal

/-- R1 (log entry 3): of several events due at one millisecond, a free value says which is taken. -/
def State.nextDue (s : State) : Option DueEvent :=
  match s.dueEvents with
  | [] => none
  | [e] => some e
  | e :: rest => some ((e :: rest).getD (Config.dueOrder s.fresh % (e :: rest).length) e)

/-! ### One millisecond -/

/-- R93: the ring cycle clock advances; it is stopped in conserve mode. -/
def Ring.tick (r : Ring) : Mode → Ring
  | .active => { r with clock := (r.clock + 1) % Config.ringCycleMs, windowTaken := false }
  | .conserve => r

/-- R138, R139: one millisecond of bits on the timeslot of the bearer under test (log entry 14). -/
def State.tickTest (s : State) : State :=
  match s.test with
  | none => s
  | some t => { s with test := some (t.bits s.fresh Config.bitsPerMs), fresh := s.fresh + Config.bitsPerMs }

/-- One millisecond passes. -/
def State.tick (s : State) : State :=
  { s with now := s.now + 1, ring := s.ring.tick s.mode.mode }.tickTest

end Sys2Proof.Machine
end

