-- ==== Sys2Proof/Machine/RequestMeanings.lean ====
section
/-! DEFINITION. The meanings of POWER_ON and of the requests, each the completion of one valid frame (R166, R172). The command
is the end of the frame, so the hunter is HUNTING when the request is acted on (R165). -/

namespace Sys2Proof.Machine

/-- POWER_ON (R172): the straps are read and every block takes its power-on values; waiting commands keep waiting. -/
def execPowerOn (stagger rate : Bool) (unit : Fin 4) (s : State) : Host.Outcome State Fault Refusal :=
  .next { State.atPowerOn { stagger := stagger, rate := rate, unit := unit } with pending := s.pending }

/-- PART_QUERY (R124). -/
def execPartQuery (s : State) : Host.Outcome State Fault Refusal :=
  .next (s.frameTaken.completeFrame State.servePartQuery)

/-- LINE_QUERY (R42). -/
def execLineQuery (line : Nat) (s : State) : Host.Outcome State Fault Refusal :=
  .next (s.frameTaken.completeFrame (State.serveLineQuery line))

/-- BEARER_QUERY (R87). -/
def execBearerQuery (bearer : Nat) (s : State) : Host.Outcome State Fault Refusal :=
  .next (s.frameTaken.completeFrame (State.serveBearerQuery bearer))

/-- LINE_CONFIG (R41). -/
def execLineConfig (line signalling ringerLoad alertGroup ceiling restricted : Nat) (s : State) :
    Host.Outcome State Fault Refusal :=
  .next (s.frameTaken.completeFrame (State.serveLineConfig line signalling ringerLoad alertGroup ceiling restricted))

/-- ENERGIZE (R18). -/
def execEnergize (lines : List Nat) (s : State) : Host.Outcome State Fault Refusal :=
  .next (s.frameTaken.completeFrame (State.serveEnergize lines))

/-- DEENERGIZE (R19). -/
def execDeenergize (lines : List Nat) (s : State) : Host.Outcome State Fault Refusal :=
  .next (s.frameTaken.completeFrame (State.serveDeenergize lines))

/-- CLEAR (R33). -/
def execClear (line tone : Nat) (s : State) : Host.Outcome State Fault Refusal :=
  .next (s.frameTaken.completeFrame (State.serveClear line tone))

/-- ALERT (R90). -/
def execAlert (number kind target cadence timeout : Nat) (s : State) : Host.Outcome State Fault Refusal :=
  .next (s.frameTaken.completeFrame (State.serveAlert number kind target cadence timeout))

/-- CANCEL_ALERT (R104). -/
def execCancelAlert (number : Nat) (s : State) : Host.Outcome State Fault Refusal :=
  .next (s.frameTaken.completeFrame (State.serveCancelAlert number))

/-- BLOCK_BEARER (R82). -/
def execBlockBearer (bearer : Nat) (s : State) : Host.Outcome State Fault Refusal :=
  .next (s.frameTaken.completeFrame (State.serveBlockBearer bearer))

/-- UNBLOCK_BEARER (R84). -/
def execUnblockBearer (bearer : Nat) (s : State) : Host.Outcome State Fault Refusal :=
  .next (s.frameTaken.completeFrame (State.serveUnblockBearer bearer))

/-- TEST_BEARER (R137). -/
def execTestBearer (bearer duration threshold inject yields : Nat) (s : State) : Host.Outcome State Fault Refusal :=
  .next (s.frameTaken.completeFrame (State.serveTestBearer bearer duration threshold inject yields))

/-- SET_POWER (R121). -/
def execSetPower (budget capacity : Nat) (s : State) : Host.Outcome State Fault Refusal :=
  .next (s.frameTaken.completeFrame (State.serveSetPower budget capacity))

/-- SET_TIMERS (R2, R34, R51, R153). -/
def execSetTimers (sample firstDigit interdigit waitLimit clearing supervision : Nat) (s : State) :
    Host.Outcome State Fault Refusal :=
  .next (s.frameTaken.completeFrame
    (State.serveSetTimers sample firstDigit interdigit waitLimit clearing supervision))

/-- LOAD_PLAN (R58). -/
def execLoadPlan (count : Nat) (entries : List PlanRow) (s : State) : Host.Outcome State Fault Refusal :=
  .next (s.frameTaken.completeFrame (State.serveLoadPlan count entries))

/-- LOAD_CADENCE (R132). -/
def execLoadCadence (entry : Nat) (durations : List Nat) (s : State) : Host.Outcome State Fault Refusal :=
  .next (s.frameTaken.completeFrame (State.serveLoadCadence entry durations))

/-- CONSERVE (R157). -/
def execConserve (limit : Nat) (s : State) : Host.Outcome State Fault Refusal :=
  .next (s.frameTaken.completeFrame (State.serveConserve limit))

/-- RESTART (R171). -/
def execRestart (s : State) : Host.Outcome State Fault Refusal :=
  .next (s.frameTaken.completeFrame State.serveRestart)

/-- UNKNOWN_REQUEST (R167). -/
def execUnknownRequest (type : Octet) (s : State) : Host.Outcome State Fault Refusal :=
  .next (s.frameTaken.completeFrame (State.serveUnknown type))

end Sys2Proof.Machine
end

