-- ==== Sys2Proof/Machine/SliMeanings.lean ====
section
/-! DEFINITION. The meanings of what the supervisory line's receiver and transmitter do (R165, R168 to R170). -/

namespace Sys2Proof.Machine

/-- OCTET_RECEIVED (R165): the hunter takes the octet, after a gap from HUNTING; a frame that it completes is acted on. -/
def execOctetReceived (octet : Octet) (s : State) : Host.Outcome State Fault Refusal :=
  .next (s.takeOctets s.hunterNow [octet])

/-- FRAME_DISCARDED (R165): the octets of a frame whose check mismatches, after its start octet, are taken again from
HUNTING. -/
def execFrameDiscarded (octets : List Octet) (s : State) : Host.Outcome State Fault Refusal :=
  .next (s.takeOctets .hunting octets)

/-- RECEIVE_GAP (R165): the frame being received is discarded and the hunter is HUNTING. -/
def execReceiveGap (s : State) : Host.Outcome State Fault Refusal :=
  .next { s with sli := { s.sli with hunter := .hunting } }

/-- REPLY_TRANSMIT (R168). -/
def execReplyTransmit (s : State) : Host.Outcome State Fault Refusal :=
  .next (if s.mayBegin .reply then s.beginReply else s)

/-- PART_REPORT (R170). -/
def execPartReport (s : State) : Host.Outcome State Fault Refusal :=
  .next (if s.mayBegin .part then s.beginPartReport else s)

/-- ALERT_REPORT (R109): for the lowest flagged position. -/
def execAlertReport (s : State) : Host.Outcome State Fault Refusal :=
  .next (match s.flaggedAlert with
    | some p => if s.mayBegin (.alert p) then s.beginAlertReport p else s
    | none => s)

/-- BEARER_REPORT (R86): for the lowest-numbered bearer with events. -/
def execBearerReport (s : State) : Host.Outcome State Fault Refusal :=
  .next (match s.eventfulBearer with
    | some b => if s.mayBegin (.bearer b) then s.beginBearerReport b else s
    | none => s)

/-- LINE_REPORT (R43): for the next line in turn with events. -/
def execLineReport (s : State) : Host.Outcome State Fault Refusal :=
  .next (match s.eventfulLine with
    | some n => if s.mayBegin (.line n) then s.beginLineReport n else s
    | none => s)

/-- FRAME_SENT (R168). -/
def execFrameSent (s : State) : Host.Outcome State Fault Refusal :=
  .next s.endFrame

end Sys2Proof.Machine
end

