-- ==== Sys2Proof/Machine/ScannerMeanings.lean ====
section
/-! DEFINITION. The meanings of the Line Scanner's events (R3 to R17). -/

namespace Sys2Proof.Machine

/-- SAMPLE_INSTANT (R2, R3; log entry 31): the loop detector of a line shows a state, and the line is sampled if it is still
to be sampled at the instant that stands. -/
def execSampleInstant (line : LineNo) (sample : Hook) (s : State) : Host.Outcome State Fault Refusal :=
  .next (s.sample line sample)

/-- ON_TRANSITION (R3, R6). -/
def execOnTransition (line : LineNo) (s : State) : Host.Outcome State Fault Refusal :=
  .next (s.onTransition line)

/-- OFF_TRANSITION (R3, R6). -/
def execOffTransition (line : LineNo) (s : State) : Host.Outcome State Fault Refusal :=
  .next (s.offTransition line)

/-- DEBOUNCE_RUN_FAILS (R3, R9, R12). -/
def execDebounceRunFails (line : LineNo) (s : State) : Host.Outcome State Fault Refusal :=
  .next (if (s.scan line).runCount = 0 then s else s.runFails line)

/-- RELEASE_POINT_REACHED (R12). -/
def execReleasePointReached (line : LineNo) (s : State) : Host.Outcome State Fault Refusal :=
  .next (s.releasePoint line)

/-- GAP_POINT_REACHED (R8). -/
def execGapPointReached (line : LineNo) (s : State) : Host.Outcome State Fault Refusal :=
  .next (s.gapPoint line)

/-- GROUP_TIMER_EXPIRY (R16). -/
def execGroupTimerExpiry (s : State) : Host.Outcome State Fault Refusal :=
  .next (if s.scanner.groupTimer = none then s else s.energizeGroup)

end Sys2Proof.Machine
end

