-- ==== Sys2Proof/Machine/CallMeanings.lean ====
section
/-! DEFINITION. The meanings of receiver digits and of the state timer expiries (R30, R34, R35, R38, R48 to R50, R53). -/

namespace Sys2Proof.Machine

/-- RECEIVER_DIGIT (R53). -/
def execReceiverDigit (receiver : ReceiverNo) (key : Key) (s : State) : Host.Outcome State Fault Refusal :=
  .next (s.takeKey receiver key)

/-- FIRST_DIGIT_TIMEOUT (R49): the line goes to LOCKOUT. -/
def execFirstDigitTimeout (line : LineNo) (s : State) : Host.Outcome State Fault Refusal :=
  .next (if s.timerRuns line .firstDigit .dial then s.accounted fun t => (t.leaveDial line).toLockout line else s)

/-- INTERDIGIT_TIMEOUT (R50): the number is complete. -/
def execInterdigitTimeout (line : LineNo) (s : State) : Host.Outcome State Fault Refusal :=
  .next (if s.timerRuns line .interdigit .dial then s.complete line else s)

/-- RECEIVER_WAIT_TIMEOUT (R48): the line goes to CLEARING. -/
def execReceiverWaitTimeout (line : LineNo) (s : State) : Host.Outcome State Fault Refusal :=
  .next (if s.timerRuns line .wait .dial then
    (s.leaveDial line).toClearing line (some .congestion) .receiverTimeout else s)

/-- QUEUE_WAIT_TIMEOUT (R30): the line leaves the seizure queue for CLEARING. -/
def execQueueWaitTimeout (line : LineNo) (s : State) : Host.Outcome State Fault Refusal :=
  .next (if s.timerRuns line .wait .waitBearer then
    (s.leaveQueue line).toClearing line (some .congestion) .queueTimeout else s)

/-- CLEARING_TIMEOUT (R34): the line goes to LOCKOUT. -/
def execClearingTimeout (line : LineNo) (s : State) : Host.Outcome State Fault Refusal :=
  .next (if s.timerRuns line .clearing .clearing then s.accounted fun t => t.toLockout line else s)

/-- HOWLER_TIMEOUT (R35): the line stays in LOCKOUT, silent. -/
def execHowlerTimeout (line : LineNo) (s : State) : Host.Outcome State Fault Refusal :=
  .next (if s.timerRuns line .howler .lockout then s.endHowler line else s)

end Sys2Proof.Machine
end

