-- ==== Sys2Proof/Machine/RingMeanings.lean ====
section
/-! DEFINITION. The meanings of the Ring Scheduler's and the Tone Source's events (R94, R103, R127, R128). -/

namespace Sys2Proof.Machine

/-- RING_TIMEOUT (R103): a running ring timeout expires and its alert ends NO_ANSWER. -/
def execRingTimeout (position : AlertPos) (s : State) : Host.Outcome State Fault Refusal :=
  .next (if s.ringTimeoutRuns position then s.accounted fun t => t.endReturning position .noAnswer else s)

/-- PHASE_WINDOW_START (R94). -/
def execPhaseWindowStart (phase : PhaseNo) (s : State) : Host.Outcome State Fault Refusal :=
  .next (s.startWindow phase)

/-- RING_SEGMENT_END (R128). -/
def execRingSegmentEnd (position : AlertPos) (s : State) : Host.Outcome State Fault Refusal :=
  .next (s.advanceBurst position)

/-- TONE_SEGMENT_END (R127). -/
def execToneSegmentEnd (source : ToneKind) (s : State) : Host.Outcome State Fault Refusal :=
  .next (s.advanceTone source)

end Sys2Proof.Machine
end

