-- ==== Sys2Proof/Machine/TesterMeanings.lean ====
section
/-! DEFINITION. The meanings of the Bearer Tester's events (R139 to R141). -/

namespace Sys2Proof.Machine

/-- TEST_DURATION_EXPIRY (R141). -/
def execTestDurationExpiry (s : State) : Host.Outcome State Fault Refusal :=
  .next s.endTest

/-- TEST_INJECTION (R140): with inject set, the next outgoing bit is inverted. -/
def execTestInjection (s : State) : Host.Outcome State Fault Refusal :=
  .next s.injectBit

/-- LOCK (R140): the checker locks on the sequence its register holds. -/
def execLock (s : State) : Host.Outcome State Fault Refusal :=
  .next (s.modTest TestContext.reportLock)

/-- BIT_ERROR (R140). -/
def execBitError (s : State) : Host.Outcome State Fault Refusal :=
  .next (s.modTest TestContext.takeError)

/-- LOCK_LOST (R139, R140): the checker returns to HUNTING. -/
def execLockLost (s : State) : Host.Outcome State Fault Refusal :=
  .next (s.modTest TestContext.reportLockLost)

end Sys2Proof.Machine
end

