-- ==== Sys2Proof/Machine/HighwayMeanings.lean ====
section
/-! DEFINITION. The meanings of the Highway Monitor's, the controller supervision's and Mode Control's events (R147 to R154, R160). -/

namespace Sys2Proof.Machine

/-- FRAME_PULSE (R147). -/
def execFramePulse (s : State) : Host.Outcome State Fault Refusal :=
  .next s.pulse

/-- HIGHWAY_LOSS (R147, R148). -/
def execHighwayLoss (s : State) : Host.Outcome State Fault Refusal :=
  .next s.loss

/-- HIGHWAY_RESTORE (R148, R151). -/
def execHighwayRestore (s : State) : Host.Outcome State Fault Refusal :=
  .next s.restoreHighway

/-- GRACE_TIMER_EXPIRY (R149). -/
def execGraceTimerExpiry (s : State) : Host.Outcome State Fault Refusal :=
  .next s.graceExpires

/-- SUPERVISION_TIMEOUT (R154). -/
def execSupervisionTimeout (s : State) : Host.Outcome State Fault Refusal :=
  .next s.supervisionExpires

/-- LIMIT_TIMER_EXPIRY (R160): a running limit timer wakes the part. -/
def execLimitTimerExpiry (s : State) : Host.Outcome State Fault Refusal :=
  .next (if s.mode.limit = none then s else s.wakeIfConserving .timer)

end Sys2Proof.Machine
end

