-- ==== Sys2Proof/Machine/Dispatch.lean ====
section
/-! DEFINITION. The dispatch of a command to its meaning, one arm per row of spec/opcode_table.json. -/

namespace Sys2Proof.Machine

def exec (i : Instr) (s : State) : Host.Outcome State Fault Refusal :=
  match i with
  | .powerOn stagger rate unit => Sys2Proof.Machine.execPowerOn stagger rate unit s
  | .partQuery => Sys2Proof.Machine.execPartQuery s
  | .lineQuery line => Sys2Proof.Machine.execLineQuery line s
  | .bearerQuery bearer => Sys2Proof.Machine.execBearerQuery bearer s
  | .lineConfig line signalling ringerLoad alertGroup ceiling restricted => Sys2Proof.Machine.execLineConfig line signalling ringerLoad alertGroup ceiling restricted s
  | .energize lines => Sys2Proof.Machine.execEnergize lines s
  | .deenergize lines => Sys2Proof.Machine.execDeenergize lines s
  | .clear line tone => Sys2Proof.Machine.execClear line tone s
  | .alert number kind target cadence timeout => Sys2Proof.Machine.execAlert number kind target cadence timeout s
  | .cancelAlert number => Sys2Proof.Machine.execCancelAlert number s
  | .blockBearer bearer => Sys2Proof.Machine.execBlockBearer bearer s
  | .unblockBearer bearer => Sys2Proof.Machine.execUnblockBearer bearer s
  | .testBearer bearer duration threshold inject yields => Sys2Proof.Machine.execTestBearer bearer duration threshold inject yields s
  | .setPower budget capacity => Sys2Proof.Machine.execSetPower budget capacity s
  | .setTimers sample firstDigit interdigit waitLimit clearing supervision => Sys2Proof.Machine.execSetTimers sample firstDigit interdigit waitLimit clearing supervision s
  | .loadPlan count entries => Sys2Proof.Machine.execLoadPlan count entries s
  | .loadCadence entry durations => Sys2Proof.Machine.execLoadCadence entry durations s
  | .conserve limit => Sys2Proof.Machine.execConserve limit s
  | .restart => Sys2Proof.Machine.execRestart s
  | .unknownRequest type => Sys2Proof.Machine.execUnknownRequest type s
  | .frameDiscarded octets => Sys2Proof.Machine.execFrameDiscarded octets s
  | .receiveGap => Sys2Proof.Machine.execReceiveGap s
  | .replyTransmit => Sys2Proof.Machine.execReplyTransmit s
  | .partReport => Sys2Proof.Machine.execPartReport s
  | .alertReport => Sys2Proof.Machine.execAlertReport s
  | .bearerReport => Sys2Proof.Machine.execBearerReport s
  | .lineReport => Sys2Proof.Machine.execLineReport s
  | .frameSent => Sys2Proof.Machine.execFrameSent s
  | .onTransition line => Sys2Proof.Machine.execOnTransition line s
  | .offTransition line => Sys2Proof.Machine.execOffTransition line s
  | .debounceRunFails line => Sys2Proof.Machine.execDebounceRunFails line s
  | .releasePointReached line => Sys2Proof.Machine.execReleasePointReached line s
  | .gapPointReached line => Sys2Proof.Machine.execGapPointReached line s
  | .groupTimerExpiry => Sys2Proof.Machine.execGroupTimerExpiry s
  | .receiverDigit receiver key => Sys2Proof.Machine.execReceiverDigit receiver key s
  | .firstDigitTimeout line => Sys2Proof.Machine.execFirstDigitTimeout line s
  | .interdigitTimeout line => Sys2Proof.Machine.execInterdigitTimeout line s
  | .receiverWaitTimeout line => Sys2Proof.Machine.execReceiverWaitTimeout line s
  | .queueWaitTimeout line => Sys2Proof.Machine.execQueueWaitTimeout line s
  | .clearingTimeout line => Sys2Proof.Machine.execClearingTimeout line s
  | .howlerTimeout line => Sys2Proof.Machine.execHowlerTimeout line s
  | .ringTimeout position => Sys2Proof.Machine.execRingTimeout position s
  | .phaseWindowStart phase => Sys2Proof.Machine.execPhaseWindowStart phase s
  | .ringSegmentEnd position => Sys2Proof.Machine.execRingSegmentEnd position s
  | .toneSegmentEnd source => Sys2Proof.Machine.execToneSegmentEnd source s
  | .testDurationExpiry => Sys2Proof.Machine.execTestDurationExpiry s
  | .testInjection => Sys2Proof.Machine.execTestInjection s
  | .lock => Sys2Proof.Machine.execLock s
  | .bitError => Sys2Proof.Machine.execBitError s
  | .lockLost => Sys2Proof.Machine.execLockLost s
  | .framePulse => Sys2Proof.Machine.execFramePulse s
  | .highwayLoss => Sys2Proof.Machine.execHighwayLoss s
  | .highwayRestore => Sys2Proof.Machine.execHighwayRestore s
  | .graceTimerExpiry => Sys2Proof.Machine.execGraceTimerExpiry s
  | .supervisionTimeout => Sys2Proof.Machine.execSupervisionTimeout s
  | .limitTimerExpiry => Sys2Proof.Machine.execLimitTimerExpiry s
  | .sampleInstant line sample => Sys2Proof.Machine.execSampleInstant line sample s
  | .octetReceived octet => Sys2Proof.Machine.execOctetReceived octet s

end Sys2Proof.Machine
end

