-- ==== Sys2Proof/Machine/Step.lean ====
section
/-! DEFINITION. One step: the command at the front of the queue, or, on an empty queue, an event of the part's own that
has fallen due, or one millisecond passing (log entry 1). -/

namespace Sys2Proof.Machine

/-- An event that has fallen due is taken as its command would be; a hook signal is taken by the block it is for. -/
def State.takeDue (s : State) : DueEvent → Host.Outcome State Fault Refusal
  | .command c => exec c s
  | .signal h => .next (s.takeHanded h)

/-- The step on an empty queue, in a state whose sample instant has begun if it was reached (R2). -/
def State.idleOn (s : State) : Host.Outcome State Fault Refusal :=
  match s.nextDue with
  | some e => ({ s with fresh := s.fresh + 1 } : State).takeDue e
  | none => .next s.tick

/-- The step on an empty queue. -/
def State.idle (s : State) : Host.Outcome State Fault Refusal :=
  s.beginInstant.idleOn

/-- One step. -/
def step (s : State) : Host.Outcome State Fault Refusal :=
  match s.pending with
  | c :: rest => exec c { s with pending := rest }
  | [] => s.idle

/-- The state with the command that a word spells put at the front of its queue. -/
def State.withFetchWord (s : State) (nbits w : Nat) : State :=
  match Sys2Proof.decodeTableWord nbits w with
  | some c => { s with pending := c :: s.pending }
  | none => s

end Sys2Proof.Machine
end

