-- ==== Sys2Proof/Safety.lean ====
section
/-! DEFINITION. What counts as a safe run of this block: no fault and no refusal, and a state that keeps the laws the
manual states of it. -/

namespace Sys2Proof.Safety

open Sys2Proof.Machine

/-- A step that stops neither with a fault nor with a refusal. -/
def goesOn (o : Host.Outcome State Fault Refusal) : Prop :=
  ∃ t, o = .next t

/-- R166: the reply queue holds 0 to 4 replies. -/
def repliesFit (s : State) : Prop :=
  s.sli.replies.length ≤ Config.replyPlaces

/-- R77, first law: the seizure queue is non-empty only while no bearer is FREE. -/
def queueOrFree (s : State) : Prop :=
  s.pool.queue = [] ∨ s.pool.freeList = []

/-- R93, Table 6-1: the ring cycle clock, the ring capacity and the budget stay in their ranges. -/
def rangesHold (s : State) : Prop :=
  s.ring.clock < Config.ringCycleMs ∧ 1 ≤ s.ring.capacity ∧ s.ring.capacity ≤ 12 ∧ s.power.budget ≤ 600

/-- Table 9-1: the grace timer runs only in HIT and the restore timer only in HIT and DOWN. -/
def highwayTimersAgree (s : State) : Prop :=
  (s.highway.grace ≠ none → s.highway.state = .hit) ∧ (s.highway.restore ≠ none → s.highway.state ≠ .up)

end Sys2Proof.Safety
end

