-- ==== Sys2Proof/WellFormed.lean ====
section
/-! DEFINITION. Which commands a frame or the line can carry: every field fits the octets that carry it, and the lists
have the lengths their counts give. An ill-formed command still has a meaning (log entry 23). -/

namespace Sys2Proof

/-- A field of one octet. -/
def fitsOctet (v : Nat) : Bool :=
  decide (v < 256)

/-- A field of two octets. -/
def fitsTwoOctets (v : Nat) : Bool :=
  decide (v < 65536)

/-- A body that fits one frame: at most 249 octets (R164). -/
def fitsFrame (r : Request) : Bool :=
  decide ((Machine.requestBody r).length < 250)

/-- A LOAD_PLAN entry whose fields fit their octets. -/
def PlanRow.wf (e : PlanRow) : Bool :=
  fitsOctet e.leading.length && e.leading.all fitsOctet && fitsOctet e.length && fitsOctet e.cls

/-- R167: an unknown request has a type with no row of its own, or a body of the wrong length, so any type may stand. A
request of a known type has fields that fit and counts that agree. -/
def Request.wf : Request → Bool
  | .partQuery => true
  | .lineQuery a => fitsOctet a
  | .bearerQuery a => fitsOctet a
  | .lineConfig a b c d e f =>
    fitsOctet a && fitsOctet b && fitsOctet c && fitsOctet d && fitsOctet e && fitsOctet f
  | .energize ns => ns.all fitsOctet && fitsFrame (.energize ns)
  | .deenergize ns => ns.all fitsOctet && fitsFrame (.deenergize ns)
  | .clear a b => fitsOctet a && fitsOctet b
  | .alert a b c d e => fitsOctet a && fitsOctet b && fitsOctet c && fitsOctet d && fitsOctet e
  | .cancelAlert a => fitsOctet a
  | .blockBearer a => fitsOctet a
  | .unblockBearer a => fitsOctet a
  | .testBearer a b c d e => fitsOctet a && fitsOctet b && fitsOctet c && fitsOctet d && fitsOctet e
  | .setPower a b => fitsTwoOctets a && fitsOctet b
  | .setTimers a b c d e f =>
    fitsOctet a && fitsOctet b && fitsOctet c && fitsOctet d && fitsOctet e && fitsOctet f
  | .loadPlan count es =>
    fitsOctet count && decide (es.length = count) && es.all PlanRow.wf && fitsFrame (.loadPlan count es)
  | .loadCadence a ds => fitsOctet a && ds.all fitsTwoOctets && fitsFrame (.loadCadence a ds)
  | .conserve a => fitsTwoOctets a
  | .restart => true
  | .unknown _ => true

/-- The request a request command carries; absent for the other commands. -/
def Instr.request : Instr → Option Request
  | .partQuery => some .partQuery
  | .lineQuery a => some (.lineQuery a)
  | .bearerQuery a => some (.bearerQuery a)
  | .lineConfig a b c d e f => some (.lineConfig a b c d e f)
  | .energize ns => some (.energize ns)
  | .deenergize ns => some (.deenergize ns)
  | .clear a b => some (.clear a b)
  | .alert a b c d e => some (.alert a b c d e)
  | .cancelAlert a => some (.cancelAlert a)
  | .blockBearer a => some (.blockBearer a)
  | .unblockBearer a => some (.unblockBearer a)
  | .testBearer a b c d e => some (.testBearer a b c d e)
  | .setPower a b => some (.setPower a b)
  | .setTimers a b c d e f => some (.setTimers a b c d e f)
  | .loadPlan count es => some (.loadPlan count es)
  | .loadCadence a ds => some (.loadCadence a ds)
  | .conserve a => some (.conserve a)
  | .restart => some .restart
  | .unknownRequest t => some (.unknown t)
  | .powerOn _ _ _ | .frameDiscarded _ | .receiveGap | .replyTransmit | .partReport | .alertReport | .bearerReport
  | .lineReport | .frameSent | .onTransition _ | .offTransition _ | .debounceRunFails _ | .releasePointReached _
  | .gapPointReached _ | .groupTimerExpiry | .receiverDigit _ _ | .firstDigitTimeout _ | .interdigitTimeout _
  | .receiverWaitTimeout _ | .queueWaitTimeout _ | .clearingTimeout _ | .howlerTimeout _ | .ringTimeout _
  | .phaseWindowStart _ | .ringSegmentEnd _ | .toneSegmentEnd _ | .testDurationExpiry | .testInjection | .lock
  | .bitError | .lockLost | .framePulse | .highwayLoss | .highwayRestore | .graceTimerExpiry | .supervisionTimeout
  | .limitTimerExpiry | .sampleInstant _ _ | .octetReceived _ => none

/-- R165: whether octets are those of a complete frame after its start octet, with a check that mismatches. -/
def isDiscardedFrame : List Octet → Bool
  | [] => false
  | length :: held =>
    decide (1 ≤ length.toNat ∧ length.toNat ≤ 250 ∧ held.length = length.toNat + 2
      ∧ Machine.completedFrame length held = none)

/-- Which commands can arise. -/
def Instr.wf (i : Instr) : Bool :=
  match i.request with
  | some r => r.wf
  | none =>
    match i with
    | .frameDiscarded octets => isDiscardedFrame octets
    | _ => true

end Sys2Proof
end

