-- ==== Sys2Proof/Certificates/Slice0/Obligations.lean ====
section
/-! DEFINITION. The statements for the provers. They speak of what a command does to the whole state: a record that is
written out, named operations where a statement of their own says what they do, and everything else unchanged. -/

section Slice0

open Sys2Proof Sys2Proof.Machine

/-! ### Words the statements share -/

/-- The part when a valid frame has completed and its request has not yet been acted on: the hunter is HUNTING, a
conserving part has been woken and the frame has counted (R165, R166 step 1). -/
def Sys2Proof.Slice0.arrived (s : State) : State :=
  s.frameTaken.frameArrives

/-- A reply at the tail of the reply queue, nothing else changed (R166 step 3). -/
def Sys2Proof.Slice0.replied (s : State) (type : Octet) (body : List Octet) : State :=
  { s with sli := { s.sli with replies := s.sli.replies ++ [{ type := type, body := body }] } }

/-- A line in CLEARING with a tone, its clearing timer started and an event pending; nothing else changed but the tone
sources (R32 to R34, R130). -/
def Sys2Proof.Slice0.clearing (s : State) (n : LineNo) (tone : Option ToneKind) (event : LineEvent) : State :=
  ({ s with tones := (s.setTone n tone).tones } : State).modLine n fun r =>
    { r with callState := .clearing, bearer := none, tone := tone,
             timer := some { kind := .clearing, expires := s.now + 1000 * s.periods.clearing },
             events := addKind LineEvent.all event r.events }

/-- A line in LOCKOUT: its feed given back, HOWLER, the howler timer at 20 s and LOCKOUT pending (R35). -/
def Sys2Proof.Slice0.lockedOut (s : State) (n : LineNo) : State :=
  ({ s with
    power := { s.power with roll := s.power.roll.erase n }
    tones := (s.setTone n (some .howler)).tones } : State).modLine n fun r =>
      { r with callState := .lockout, feed := .sense, tone := some .howler,
               timer := some { kind := .howler, expires := s.now + 20000 },
               events := addKind LineEvent.all .lockout r.events }

/-- A line back in IDLE with RELEASED pending (R37). -/
def Sys2Proof.Slice0.idled (s : State) (n : LineNo) : State :=
  ({ s with
    power := { s.power with roll := s.power.roll.erase n }
    tones := (s.setTone n none).tones } : State).modLine n fun r =>
      { r with callState := .idle, feed := .sense, bearer := none, alert := none, receiver := none, tone := none,
               timer := none, digits := [], planMatch := none,
               events := addKind LineEvent.all .released r.events }

/-- A bearer BUSY with a line that is CONNECTED on it, CALL_REQUEST pending (R30, R71, R72). -/
def Sys2Proof.Slice0.granted (s : State) (n : LineNo) (b : BearerNo) : State :=
  (s.modBearer b (fun r => { r with state := .busy, downReason := none, holder := some (.line n) })).modLine n (fun r =>
    { r with callState := .connected, bearer := some b, timer := none,
             events := addKind LineEvent.all .callRequest r.events })

/-- The running test aborted with a cause: its result in the bearer record, TEST_ENDED pending, the context IDLE (R142). -/
def Sys2Proof.Slice0.testAborted (s : State) (t : TestContext) (cause : TestCause) : State :=
  ({ s with test := none } : State).modBearer t.bearer fun r =>
    { r with outcome := .aborted, abortCause := some cause, errorCount := t.errorCount, locked := t.locked,
             events := addKind BearerEvent.all .testEnded r.events }

/-- The loop detector of a line shows a state from now on (R2; the model's own, log entry 31). -/
def Sys2Proof.Slice0.showing (s : State) (n : LineNo) (h : Hook) : State :=
  { s with scanner := { s.scanner with loops := s.scanner.loops.set n.1 h n.2 } }

/-- A sample instant begins if it has been reached, one sample period after the last: every energized line is to be sampled
at it (R2). -/
def Sys2Proof.Slice0.atInstant (s : State) : State :=
  if s.scanner.lastSample + (match s.mode.mode with
      | .active => s.periods.sample
      | .conserve => 32) ≤ s.now then
    { s with scanner := { s.scanner with
        lastSample := s.now
        unsampled := allLines.filter fun n => (s.line n).callState ≠ .deenergized } }
  else s

/-- A signal handed over and not yet taken is taken out of those that wait (R14). -/
def Sys2Proof.Slice0.without (s : State) (h : Handed) : State :=
  { s with scanner := { s.scanner with handed := s.scanner.handed.erase h } }

/-- The scanner record of a line after an OFF transition dated `t` (R6). -/
def Sys2Proof.Slice0.offAt (s : State) (n : LineNo) (t : Nat) : State :=
  (showing s n .off).modScan n fun r =>
    { r with hook := .off, runCount := 0, runStart := none, lastTransition := some t, releasePoint := none }

/-- The frame a transmitter that is IDLE begins to send (R168). -/
def Sys2Proof.Slice0.sending (s : State) (f : Frame) : State :=
  { s with sli := { s.sli with sending := some { frame := f, ends := s.now + s.straps.frameMs f } } }

/-- What happens when octets arrive one after the other at one moment. -/
def Sys2Proof.Slice0.receive (s : State) : List Octet → Host.Outcome State Fault Refusal
  | [] => .next s
  | o :: rest =>
    match exec (.octetReceived o) s with
    | .next t => Sys2Proof.Slice0.receive t rest
    | .fault f => .fault f
    | .refused r => .refused r

open Sys2Proof.Slice0

/-! ### Steps -/

/-- A step takes the command at the front of the queue and runs it with the queue's rest. -/
def Obligations.StepRunsTheFrontCommand : Prop :=
  ∀ (c : Instr) (rest : List Instr) (s : State), s.pending = c :: rest → step s = exec c { s with pending := rest }

/-- The state timer of a line runs with a kind, in the call state the kind belongs to, and its expiry is reached (R38). -/
def Sys2Proof.Slice0.timesOut (s : State) (n : LineNo) (k : TimerKind) (c : CallState) : Prop :=
  (s.line n).callState = c ∧ ∃ x, (s.line n).timer = some { kind := k, expires := x } ∧ x ≤ s.now

/-- Which command stands for an event of the part's own that has fallen due, and when it has: a sample of an instant that
stands (R2), the group timer (R16), the points and timers of a line (R8, R12, R38), the ring timeout, the window starts and
the segments (R93, R103, R127, R128), the test (R140, R141), the highway (R147 to R149), the supervisory line (R154, R165,
R168) and the limit timer (R160). -/
def Sys2Proof.Slice0.isDue (s : State) : Instr → Prop
  | .sampleInstant n h => n ∈ s.scanner.unsampled ∧ h = s.scanner.loops[n]
  | .groupTimerExpiry => ∃ x, s.scanner.groupTimer = some x ∧ x ≤ s.now
  | .releasePointReached n => ∃ r, (s.scan n).releasePoint = some r ∧ r ≤ s.now ∧
      ¬ ((s.line n).callState.isRelease = true ∧ (s.scan n).hook = .on ∧ ∃ b, (s.scan n).runStart = some b ∧ b < r)
  | .gapPointReached n => ∃ g, (s.scan n).gapPoint = some g ∧ g ≤ s.now ∧
      ¬ ∃ b, b < g ∧ ((s.scan n).hook = .off ∧ (s.scan n).runStart = some b ∨
        (s.scan n).hook = .on ∧ (s.scan n).lastTransition = some b)
  | .firstDigitTimeout n => timesOut s n .firstDigit .dial
  | .interdigitTimeout n => timesOut s n .interdigit .dial
  | .receiverWaitTimeout n => timesOut s n .wait .dial
  | .queueWaitTimeout n => timesOut s n .wait .waitBearer
  | .clearingTimeout n => timesOut s n .clearing .clearing
  | .howlerTimeout n => timesOut s n .howler .lockout
  | .ringTimeout p => ∃ a x, s.alertAt p = some a ∧ a.expires = some x ∧ x ≤ s.now ∧
      (a.state = .queued ∨ a.state = .placed)
  | .ringSegmentEnd p => ∃ a b, s.alertAt p = some a ∧ a.burst = some b ∧ b.ends ≤ s.now
  | .phaseWindowStart p => s.mode.mode = .active ∧ s.ring.clock = 2000 * p.1 ∧ s.ring.windowTaken = false
  | .toneSegmentEnd k => ∃ q, s.tones.source k = some q ∧ 2 ≤ s.tones.cadences[toneEntry k].length ∧
      q.began + s.tones.cadences[toneEntry k].getD q.segment 0 ≤ s.now
  | .testInjection => ∃ t, s.test = some t ∧ t.inject = true ∧ t.began + 1000 * (t.injections + 1) ≤ s.now ∧
      t.injections + 1 < t.duration
  | .testDurationExpiry => ∃ t, s.test = some t ∧ t.began + 1000 * t.duration ≤ s.now
  | .highwayLoss => s.mode.mode = .active ∧ ∃ x, s.highway.lossFrom = some x ∧ x + 1 ≤ s.now
  | .highwayRestore => ∃ x, s.highway.restore = some x ∧ x ≤ s.now
  | .graceTimerExpiry => ∃ x, s.highway.grace = some x ∧ x ≤ s.now
  | .receiveGap => s.sli.hunter ≠ .hunting ∧ s.sli.lastOctet + 20 < s.now
  | .frameSent => ∃ f, s.sli.sending = some f ∧ f.ends ≤ s.now
  | .supervisionTimeout => ∃ x, s.sli.supervision = some x ∧ x ≤ s.now
  | .limitTimerExpiry => s.mode.mode = .conserve ∧ ∃ x, s.mode.limit = some x ∧ x ≤ s.now
  | .replyTransmit => s.sli.sending = none ∧ s.sli.replies ≠ []
  | .partReport => s.sli.sending = none ∧ s.sli.replies = [] ∧ s.sli.events ≠ []
  | .alertReport => s.sli.sending = none ∧ s.sli.replies = [] ∧ s.sli.events = [] ∧
      ∃ p a, s.alertAt p = some a ∧ a.reportPending = true
  | .bearerReport => s.sli.sending = none ∧ s.sli.replies = [] ∧ s.sli.events = [] ∧
      (∀ p a, s.alertAt p = some a → a.reportPending = false) ∧ ∃ b, (s.bearer b).events ≠ []
  | .lineReport => s.sli.sending = none ∧ s.sli.replies = [] ∧ s.sli.events = [] ∧
      (∀ p a, s.alertAt p = some a → a.reportPending = false) ∧ (∀ b, (s.bearer b).events = []) ∧
      ∃ n, (s.line n).events ≠ []
  | _ => False

/-- The model's choice (log entries 1 and 3): with no command waiting, a step first lets a sample instant that is reached
begin (R2), and then takes one of the events of the part's own that have fallen due, as its command would be taken, or one
of the hook signals handed over (R14, log entry 6), or, if there is none of either, one millisecond passes. A millisecond
moves the clock of the model, in ACTIVE the ring cycle clock (R93), and, while a test runs, the test's bits (log entry 14),
and nothing else. -/
def Obligations.IdleStepTakesDueEventOrMillisecond : Prop :=
  ∀ s u : State, s.pending = [] → u = atInstant s →
    ((∃ c, isDue u c) ∨ u.scanner.handed ≠ [] →
      (∃ c, isDue u c ∧ step s = exec c { u with fresh := u.fresh + 1 }) ∨
      ∃ h ∈ u.scanner.handed, step s = .next (({ u with fresh := u.fresh + 1 } : State).takeHanded h)) ∧
    ((∀ c, ¬ isDue u c) → u.scanner.handed = [] →
      (u.test = none →
        (u.mode.mode = .active →
          step s = .next { u with
            now := u.now + 1, ring := { u.ring with clock := (u.ring.clock + 1) % 6000, windowTaken := false } }) ∧
        (u.mode.mode = .conserve → step s = .next { u with now := u.now + 1 })) ∧
      ∀ t, u.test = some t →
        let after := t.bits u.fresh Config.bitsPerMs
        step s = .next { u with
          now := u.now + 1
          ring := (match u.mode.mode with
            | .active => { u.ring with clock := (u.ring.clock + 1) % 6000, windowTaken := false }
            | .conserve => u.ring)
          test := some after
          fresh := u.fresh + Config.bitsPerMs } ∧
        after.bearer = t.bearer ∧ after.duration = t.duration ∧ after.threshold = t.threshold ∧
        after.inject = t.inject ∧ after.yields = t.yields ∧ after.began = t.began ∧ after.injections = t.injections ∧
        (t.errorCount ≤ 255 → t.errorCount ≤ after.errorCount ∧ after.errorCount ≤ 255))

/-- No command stops the part, and none takes a command out of the queue or puts one in. -/
def Obligations.EveryCommandGoesOnAndKeepsTheQueue : Prop :=
  ∀ (c : Instr) (s : State), ∃ t, exec c s = .next t ∧ t.pending = s.pending

/-- R172, with the power-on columns of Tables 0-1, 1-1, 2-1, 3-1, 4-1, 6-1, 8-1, 9-1, 10-1 and 11-1. That no line is to be
sampled and no hook signal waits at power-on is the model's choice (log entry 5). -/
def Obligations.PowerOnPutsEveryBlockInItsPowerOnState : Prop :=
  ∀ (stagger rate : Bool) (unit : Fin 4) (s : State), ∃ t, exec (.powerOn stagger rate unit) s = .next t ∧
    t.pending = s.pending ∧ t.straps = { stagger := stagger, rate := rate, unit := unit } ∧
    t.mode = { mode := .active, wakeCause := .none, limit := none } ∧
    t.highway.state = .down ∧ t.highway.grace = none ∧ t.highway.restore = none ∧
    t.power = { budget := 80, roll := [], waitList := [], overcommit := false } ∧ t.committed = 20 ∧
    t.ring.capacity = 6 ∧ t.ring.clock = 0 ∧ t.ring.accepted = [] ∧ t.ring.placed = [] ∧ (∀ p, t.alertAt p = none) ∧
    t.pool.freeList = [] ∧ t.pool.queue = [] ∧
    (∀ b, t.bearer b =
      { state := .down, downReason := some .highway, holder := none, blockPending := false,
        outcome := .none, abortCause := none, errorCount := 0, locked := false, events := [] }) ∧
    (∀ n, t.line n =
      { callState := .deenergized, feed := .none, signalling := .pulse, ringerLoad := 1,
        alertGroup := none, ceiling := .full, restricted := false, callNumber := 0, digits := [], planMatch := none,
        bearer := none, alert := none, receiver := none, tone := none, flashCount := 0, events := [], timer := none }) ∧
    (∀ n, t.scan n =
      { hook := .on, runCount := 0, runStart := none, lastTransition := none, pulseCount := 0,
        releasePoint := none, gapPoint := none }) ∧
    t.scanner.energizeList = (if stagger then [] else allLines) ∧
    t.scanner.groupTimer = (if stagger then none else some (t.now + 250)) ∧
    t.scanner.unsampled = [] ∧ t.scanner.handed = [] ∧
    (∀ r, t.receiverLine r = none) ∧ t.collector.waitList = [] ∧
    t.collector.plan = [{ leading := [.num 1, .num 1, .num 2], length := 3, cls := .priority }] ∧
    t.periods = { sample := 4, firstDigit := 10, interdigit := 5, waitLimit := 10, clearing := 30, supervision := 30 } ∧
    t.test = none ∧ (∀ k, t.tones.source k = none) ∧
    t.tones.cadences = #v[[2000], [500, 500], [250, 250], [2000], [1000], [400, 200, 400], [2000], [250, 250, 250]] ∧
    t.sli.hunter = .hunting ∧ t.sli.replies = [] ∧ t.sli.sending = none ∧ t.sli.reportPosition = 23 ∧
    t.sli.overrun = false ∧ t.sli.events = [.started] ∧ t.sli.controller = .lost ∧ t.sli.supervision = none

/-! ### Frames -/

/-- R165, with R166 where a frame completes: what each octet does to the hunter. On a gap the hunter stands at HUNTING
for the octet that ended it. That the octet completes its frame itself is read from the rule (log entry 13). -/
def Obligations.HunterTakesOctets : Prop :=
  ∀ (s : State) (o : Octet),
    let stands := fun h : Hunter => ({ s with sli := { s.sli with hunter := h, lastOctet := s.now } } : State)
    ∀ h : Hunter,
      h = (if s.sli.hunter ≠ .hunting ∧ s.sli.lastOctet + 20 < s.now then .hunting else s.sli.hunter) →
      (h = .hunting → o = 0xA5 → exec (.octetReceived o) s = .next (stands .awaitLength)) ∧
      (h = .hunting → o ≠ 0xA5 → exec (.octetReceived o) s = .next (stands .hunting)) ∧
      (h = .awaitLength → 1 ≤ o.toNat → o.toNat ≤ 250 →
        exec (.octetReceived o) s = .next (stands (.collecting o []))) ∧
      (h = .awaitLength → o.toNat = 0 ∨ 251 ≤ o.toNat → exec (.octetReceived o) s = .next (stands .hunting)) ∧
      (∀ length held, h = .collecting length held →
        (held.length + 1 ≠ length.toNat + 2 →
          exec (.octetReceived o) s = .next (stands (.collecting length (held ++ [o])))) ∧
        (∀ f : Frame, length.toNat = f.body.length + 1 →
          held ++ [o] = f.type :: f.body ++ checkOctets (checkOf (length :: f.type :: f.body)) →
          exec (.octetReceived o) s = .next ((stands .hunting).takeFrame f)) ∧
        (1 ≤ length.toNat → held.length + 1 = length.toNat + 2 →
          checkOctets (checkOf (length :: (held ++ [o]).take length.toNat)) ≠ (held ++ [o]).drop length.toNat →
          exec (.octetReceived o) s = exec (.frameDiscarded (length :: held ++ [o])) s))

/-- R165: on a gap the hunter is HUNTING. The octets of a discarded frame are taken again from HUNTING: octets with no
start octet leave nothing, a frame found within them is taken at once, and a start octet at their end awaits a length. -/
def Obligations.DiscardedOctetsAreTakenAgain : Prop :=
  ∀ s : State,
    exec .receiveGap s = .next { s with sli := { s.sli with hunter := .hunting } } ∧
    ∀ octets : List Octet, (∀ o ∈ octets, o ≠ 0xA5) →
      let stands := fun h : Hunter => ({ s with sli := { s.sli with hunter := h, lastOctet := s.now } } : State)
      exec (.frameDiscarded octets) s = .next (stands .hunting) ∧
      exec (.frameDiscarded (octets ++ [0xA5])) s = .next (stands .awaitLength) ∧
      ∀ f : Frame, f.body.length < 250 →
        exec (.frameDiscarded (octets ++ f.octets)) s = .next ((stands .hunting).takeFrame f)

/-- R164 to R167: a request's frame, received octet by octet from HUNTING, does what the request's command does. That its
last octet completes the frame and the request is acted on in that step is read from the rules (log entry 13), and so is
that the bodies of ENERGIZE and DEENERGIZE have no count octet (log entry 10). -/
def Obligations.RequestReceivedOctetByOctet : Prop :=
  ∀ (c : Instr) (r : Request) (s : State), c.request = some r → r.wf = true → (∀ t, r ≠ .unknown t) →
    s.sli.hunter = .hunting →
    receive s (requestFrame r).octets = exec c { s with sli := { s.sli with lastOctet := s.now } }

/-- Table 11-6: reading the frame that carries a request gives the request back, at every value its fields admit. That the
bodies of ENERGIZE and DEENERGIZE have no count octet is read from the table (log entry 10). -/
def Obligations.RequestFrameReadsBack : Prop :=
  ∀ r : Request, r.wf = true → (∀ t, r ≠ .unknown t) → (requestFrame r).request = r

/-- A valid frame counted for controller supervision: the controller is PRESENT and its supervision timer starts afresh
(R153). -/
def Sys2Proof.Slice0.counting (w : State) : State :=
  { w with sli := { w.sli with
    hunter := .hunting, controller := .present
    events := if w.sli.controller = .lost then addKind PartEvent.all .controllerBack w.sli.events else w.sli.events
    supervision := if w.periods.supervision = 0 then none else some (w.now + 1000 * w.periods.supervision) } }

/-- The part woken by a frame, and the frame counted (R152, R155, R161, R166). -/
def Sys2Proof.Slice0.frameWoken (s : State) : State :=
  counting ({ s with
    mode := { mode := .active, wakeCause := .controller, limit := none }
    ring := { s.ring with clock := 0, windowTaken := false }
    highway := (match s.highway.state with
      | .up => { s.highway with lossFrom := some s.now }
      | .hit => { s.highway with grace := some (s.now + 2000), restore := none }
      | .down => { s.highway with restore := none })
    sli := { s.sli with hunter := .hunting, events := addKind PartEvent.all .woke s.sli.events } } : State).reevaluate.examine

/-- R161, R162, R166, R153: a frame that completes first wakes a part that conserves, then counts for controller
supervision; a request that finds four replies waiting is dropped, which sets the overrun flag and makes OVERRUN pending.
An OFF transition that the frame has overtaken on its way to Mode Control is then OFF_HOOK before the request, or waits and
is taken after it: either is allowed, and which it is is a free value (log entry 32). -/
def Obligations.FrameCompletionWakesCountsAndDrops : Prop :=
  ∀ s : State,
    (s.mode.mode = .active → arrived s = counting s) ∧
    (s.mode.mode = .conserve →
      ((∀ n, Handed.off n ∉ s.scanner.handed) → arrived s = frameWoken s) ∧
      ∀ n, s.scanner.handed = [.off n] →
        let waits := ({ frameWoken s with fresh := s.fresh + 1 } : State)
        let first := (without waits (.off n)).originate n
        (((frameWoken s).line n).callState = .idle → arrived s = first ∨ arrived s = waits) ∧
        (((frameWoken s).line n).callState ≠ .idle → arrived s = waits)) ∧
    (∀ n, s.mode.mode = .active → (s.line n).callState = .idle →
      s.takeHanded (.off n) = (without s (.off n)).originate n) ∧
    ∀ (c : Instr) (r : Request), c.request = some r → 4 ≤ s.sli.replies.length →
      exec c s = .next { arrived s with sli := { (arrived s).sli with
        overrun := true, events := addKind PartEvent.all .overrun (arrived s).sli.events } }

/-! ### Requests -/

/-- R42, R87, R124, R167, Table 11-7: the queries show what they name and change nothing but the reply queue, and so does
the refusal of a record that is malformed. -/
def Obligations.QueriesAndMalformedRecordsChangeNothing : Prop :=
  ∀ s : State, s.sli.replies.length < 4 →
    exec .partQuery s = .next (replied (arrived s) 0x81
      (0 :: twoOctets (setBits PartEvent.all (arrived s).sli.events) ++ (arrived s).partSnapshot)) ∧
    (∀ n : LineNo, exec (.lineQuery n.1) s = .next (replied (arrived s) 0x82
      (0 :: threeOctets (setBits LineEvent.all ((arrived s).line n).events) ++ (arrived s).lineSnapshot n))) ∧
    (∀ v, 24 ≤ v → exec (.lineQuery v) s = .next (replied (arrived s) 0x82 [2])) ∧
    (∀ b : BearerNo, exec (.bearerQuery b.1) s = .next (replied (arrived s) 0x83
      (0 :: octet (setBits BearerEvent.all ((arrived s).bearer b).events) :: (arrived s).bearerSnapshot b
        ++ (octet (arrived s).pool.freeList.length :: (arrived s).pool.freeList.map fun f => octet f.1)
        ++ (octet (arrived s).pool.queue.length ::
            ((arrived s).pool.queue.map fun e => [octet e.1.1, octet e.2.code]).flatten)))) ∧
    (∀ v, 6 ≤ v → exec (.bearerQuery v) s = .next (replied (arrived s) 0x83 [2])) ∧
    (∀ t, exec (.unknownRequest t) s = .next (replied (arrived s) (t ||| 0x80) [1])) ∧
    (arrived s).partSnapshot.length = 19 ∧ (∀ b, ((arrived s).bearerSnapshot b).length = 10) ∧
    ∀ n, ((arrived s).lineSnapshot n).length = 21 + ((arrived s).line n).digits.length

/-- R41: LINE_CONFIG, its three checks in order, the clamp of the ringer load, the alert group above 31, and the five
values written at once and echoed. -/
def Obligations.LineConfigWritesFiveFieldsOrRefuses : Prop :=
  ∀ (s : State) (signalling load group ceiling restricted : Nat), s.sli.replies.length < 4 →
    (∀ v, 24 ≤ v → exec (.lineConfig v signalling load group ceiling restricted) s =
      .next (replied (arrived s) 0x88 [2, octet v])) ∧
    ∀ n : LineNo,
      (2 ≤ signalling ∨ 2 ≤ ceiling ∨ 2 ≤ restricted →
        exec (.lineConfig n.1 signalling load group ceiling restricted) s =
          .next (replied (arrived s) 0x88 [1, octet n.1])) ∧
      (signalling < 2 → ceiling < 2 → restricted < 2 →
        (((arrived s).line n).callState ≠ .deenergized → ((arrived s).line n).callState ≠ .idle →
          exec (.lineConfig n.1 signalling load group ceiling restricted) s =
            .next (replied (arrived s) 0x88 [4, octet n.1])) ∧
        (((arrived s).line n).callState = .deenergized ∨ ((arrived s).line n).callState = .idle →
          exec (.lineConfig n.1 signalling load group ceiling restricted) s =
            .next (replied ((arrived s).modLine n fun r =>
              { r with signalling := if signalling = 0 then .pulse else .tone
                       ringerLoad := max 1 (min 5 load)
                       alertGroup := if h : group < 32 then some ⟨group, h⟩ else none
                       ceiling := if ceiling = 0 then .full else .reduced
                       restricted := decide (restricted = 1) })
              0x88 [0, octet n.1, octet signalling, octet (max 1 (min 5 load)),
                    (if group < 32 then octet group else 0xFF), octet ceiling, octet restricted])))

/-- One line of an ENERGIZE taken in its turn, with the code of its disposition (R16, R18). -/
def Sys2Proof.Slice0.energizeTurn (s : State) (n : LineNo) : State × Nat :=
  if (s.line n).callState ≠ .deenergized then (s, 2)
  else if n ∈ s.scanner.energizeList then (s, 1)
  else ({ s with scanner := { s.scanner with
    energizeList := s.scanner.energizeList ++ [n]
    groupTimer := if s.scanner.energizeList = [] then some (s.now + 250) else s.scanner.groupTimer } }, 0)

/-- One line of a DEENERGIZE taken in its turn, with the code of its disposition (R16, R19, R26). A line deenergized is not
sampled from that moment, and an ANSWER of it that waits is discarded (R2, R37; log entry 6); one whose OFF transition was
declared in IDLE and waits is BUSY, and the transition goes on waiting (R19, R162). -/
def Sys2Proof.Slice0.deenergizeTurn (s : State) (n : LineNo) : State × Nat :=
  if (s.line n).callState = .idle then
    if Handed.off n ∈ s.scanner.handed then (s, 3)
    else ((({ s with scanner := { s.scanner with
          unsampled := s.scanner.unsampled.filter fun m => m ≠ n
          handed := s.scanner.handed.filter fun h => h.line ≠ n } } : State).modScan n fun _ =>
        { hook := .on, runCount := 0, runStart := none, lastTransition := none, pulseCount := 0, releasePoint := none,
          gapPoint := none }).modLine n fun r =>
        { r with callState := .deenergized, feed := .none, events := addKind LineEvent.all .deenergized r.events }, 0)
  else if (s.line n).callState = .deenergized then
    if n ∈ s.scanner.energizeList then
      ({ s with scanner := { s.scanner with
        energizeList := s.scanner.energizeList.erase n
        groupTimer := if s.scanner.energizeList.erase n = [] then none else s.scanner.groupTimer } }, 1)
    else (s, 2)
  else (s, 3)

/-- Lines taken in request order, each with its number and its disposition for the reply. -/
def Sys2Proof.Slice0.inTurn (turn : State → LineNo → State × Nat) (s : State) : List LineNo → State × List Octet
  | [] => (s, [])
  | n :: rest =>
    ((Sys2Proof.Slice0.inTurn turn (turn s n).1 rest).1,
     octet n.1 :: octet (turn s n).2 :: (Sys2Proof.Slice0.inTurn turn (turn s n).1 rest).2)

/-- R18, R19: ENERGIZE and DEENERGIZE check the count, then the numbers, then take the lines in request order. That an
ANSWER of a line that waits is discarded as the line is deenergized is read from R37 (log entry 6), and that the reply
carries no count octet before the dispositions is read from Table 11-6 (log entry 10). -/
def Obligations.EnergizeAndDeenergizeTakeLinesInOrder : Prop :=
  ∀ s : State, s.sli.replies.length < 4 →
    (∀ lines : List Nat, lines.length = 0 ∨ 24 < lines.length →
      exec (.energize lines) s = .next (replied (arrived s) 0x89 [1]) ∧
      exec (.deenergize lines) s = .next (replied (arrived s) 0x8A [1])) ∧
    (∀ lines : List Nat, 1 ≤ lines.length → lines.length ≤ 24 → (∃ v ∈ lines, 24 ≤ v) →
      exec (.energize lines) s = .next (replied (arrived s) 0x89 [2]) ∧
      exec (.deenergize lines) s = .next (replied (arrived s) 0x8A [2])) ∧
    (∀ lines : List LineNo, 1 ≤ lines.length → lines.length ≤ 24 →
      exec (.energize (lines.map Fin.val)) s =
        .next (replied (inTurn energizeTurn (arrived s) lines).1 0x89
          (0 :: (inTurn energizeTurn (arrived s) lines).2)) ∧
      exec (.deenergize (lines.map Fin.val)) s =
        .next (replied (inTurn deenergizeTurn (arrived s) lines).1 0x8A
          (0 :: (inTurn deenergizeTurn (arrived s) lines).2)))

/-- R33: CLEAR, its three checks in order, what the line held ended by its state, and the entry to CLEARING with the named
tone. -/
def Obligations.ClearEndsWhatTheLineHolds : Prop :=
  ∀ (s : State) (tone : Nat), s.sli.replies.length < 4 →
    (∀ v, 24 ≤ v → exec (.clear v tone) s = .next (replied (arrived s) 0x8B [2, octet v])) ∧
    ∀ n : LineNo,
      (tone ≠ 0 → tone ≠ 2 → tone ≠ 3 → exec (.clear n.1 tone) s = .next (replied (arrived s) 0x8B [1, octet n.1])) ∧
      ∀ k : Option ToneKind, (tone = 0 ∧ k = none ∨ tone = 2 ∧ k = some .busy ∨ tone = 3 ∧ k = some .congestion) →
        (((arrived s).line n).callState ≠ .dial → ((arrived s).line n).callState ≠ .waitBearer →
          ((arrived s).line n).callState ≠ .connected →
          exec (.clear n.1 tone) s = .next (replied (arrived s) 0x8B [4, octet n.1])) ∧
        (((arrived s).line n).callState = .dial →
          exec (.clear n.1 tone) s =
            .next (replied (clearing ((arrived s).leaveDial n) n k .cleared) 0x8B [0, octet n.1, 3])) ∧
        (((arrived s).line n).callState = .waitBearer →
          exec (.clear n.1 tone) s =
            .next (replied (clearing { arrived s with pool := { (arrived s).pool with
              queue := (arrived s).pool.queue.filter fun e => e.1 ≠ n } } n k .cleared) 0x8B [0, octet n.1, 4])) ∧
        (((arrived s).line n).callState = .connected →
          (∀ b, ((arrived s).line n).bearer = some b →
            exec (.clear n.1 tone) s =
              .next (replied (clearing (((arrived s).modLine n fun r => { r with bearer := none }).enterFree b) n k
                .cleared) 0x8B [0, octet n.1, 6])) ∧
          (((arrived s).line n).bearer = none →
            exec (.clear n.1 tone) s = .next (replied (clearing (arrived s) n k .cleared) 0x8B [0, octet n.1, 6])))

/-- R90: the eight checks of ALERT in the order of Table 5-3; a refused ALERT changes nothing but the reply queue. -/
def Obligations.AlertChecksRefuseInOrder : Prop :=
  ∀ (s : State) (number kind target cadence timeout : Nat), s.sli.replies.length < 4 →
    let u := arrived s
    let refused := fun code : Octet =>
      exec (.alert number kind target cadence timeout) s = .next (replied u 0x90 [code, octet number])
    ((∀ p, u.alertAt p ≠ none) → refused 7) ∧
    ((∃ p, u.alertAt p = none) → number = 0 → refused 1) ∧
    ((∃ p, u.alertAt p = none) → number ≠ 0 → (∃ p a, u.alertAt p = some a ∧ a.number = number) → refused 8) ∧
    ((∃ p, u.alertAt p = none) → number ≠ 0 → (∀ p a, u.alertAt p = some a → a.number ≠ number) →
      (cadence < 4 ∨ 7 < cadence ∨ 1 < kind → refused 1) ∧
      (4 ≤ cadence → cadence ≤ 7 →
        (kind = 0 ∧ 24 ≤ target ∨ kind = 1 ∧ 32 ≤ target → refused 2) ∧
        (kind = 0 → ∀ n : LineNo, target = n.1 → (u.line n).callState ≠ .idle → refused 3) ∧
        (kind = 1 → ∀ g : Fin 32, target = g.1 →
          (∀ n, (u.line n).callState = .idle → (u.line n).alertGroup ≠ some g) → refused 3) ∧
        ((kind = 0 ∧ ∃ n : LineNo, target = n.1 ∧ (u.line n).callState = .idle) ∨
          (kind = 1 ∧ ∃ g : Fin 32, target = g.1 ∧ ∃ n, (u.line n).callState = .idle ∧ (u.line n).alertGroup = some g) →
          (u.power.budget < u.committed + 6 → refused 6) ∧
          (u.committed + 6 ≤ u.power.budget → u.highway.state = .down → refused 5) ∧
          (u.committed + 6 ≤ u.power.budget → u.pool.freeList = [] → (∀ t, u.test = some t → t.yields = false) →
            refused 5))))

/-- R80, R88, R92: an accepted ALERT takes its bearer from the free list or from a yielding test, writes its record at the
lowest empty position, reserves the bearer, moves the members to ALERTED and tries placement. -/
def Obligations.AlertAcceptanceReservesAndAlerts : Prop :=
  ∀ (s : State) (number kind target timeout : Nat) (cadence : CadenceNo) (pos : AlertPos) (t : Target) (sel : Selection)
    (b : BearerNo) (taken : State), s.sli.replies.length < 4 →
    let u := arrived s
    u.alertAt pos = none → (∀ q, q < pos → u.alertAt q ≠ none) → number ≠ 0 →
    (∀ p a, u.alertAt p = some a → a.number ≠ number) → 4 ≤ cadence.1 →
    ((kind = 0 ∧ ∃ n : LineNo, target = n.1 ∧ t = .line n) ∨ (kind = 1 ∧ ∃ g : Fin 32, target = g.1 ∧ t = .group g)) →
    u.select (u.candidates t) = some sel → u.committed + 6 ≤ u.power.budget → u.highway.state ≠ .down →
    ((∃ rest, u.pool.freeList = b :: rest ∧ taken = { u with pool := { u.pool with freeList := rest } }) ∨
      (u.pool.freeList = [] ∧ ∃ x, u.test = some x ∧ x.yields = true ∧ b = x.bearer ∧
        taken = testAborted u x .giveUp)) →
    let a : AlertRecord :=
      { number := number, target := t, members := sel.members, dropped := sel.dropped, cadence := cadence
        timeout := max 5 (min 180 timeout), state := .queued, phase := none, bearer := b, answering := none
        cause := none, load := sel.load, reportPending := false
        expires := some (s.now + 1000 * max 5 (min 180 timeout)), burst := none }
    let done := ({ taken.modBearer b (fun r =>
        { r with state := .reserved, downReason := none, holder := some (.alert number) }) with
      lines := Vector.ofFn fun n => if n ∈ sel.members then
        { u.line n with callState := .alerted, alert := some number } else u.line n
      ring := { u.ring with alerts := u.ring.alerts.set pos.1 (some a) pos.2, accepted := u.ring.accepted ++ [pos] }
      : State }).tryPlacement.examine
    exec (.alert number kind target cadence.1 timeout) s =
      .next (replied done 0x90 (0 :: octet number :: acceptedOctets pos ((done.alertAt pos).getD a)))

/-- R91: the first candidate is always taken, at the smaller of its load and the ring capacity; later ones are taken in
line order while the running sum stays within the capacity, and selection stops at the first misfit. -/
def Obligations.MemberSelectionTakesALeadingRun : Prop :=
  ∀ (s : State) (n : LineNo) (rest : List LineNo) (t : Target),
    (∃ sel, s.select (n :: rest) = some sel ∧ sel.members ++ sel.dropped = n :: rest ∧
      sel.members.head? = some n ∧ sel.load ≤ s.ring.capacity ∧
      sel.load = min (s.line n).ringerLoad s.ring.capacity + (sel.members.tail.map fun m => (s.line m).ringerLoad).sum ∧
      ∀ d, sel.dropped.head? = some d → s.ring.capacity < sel.load + (s.line d).ringerLoad) ∧
    (∀ m, m ∈ s.candidates t ↔ (s.line m).callState = .idle ∧
      (t = .line m ∨ ∃ g, t = .group g ∧ (s.line m).alertGroup = some g)) ∧
    (s.candidates t).Pairwise (· < ·)

/-- An outstanding alert ended without an answer: its final record written and its report pending, its place in the
placement order gone, its members returned, its bearer through the entry rule (R105, Table 5-4). -/
def Sys2Proof.Slice0.endedReturning (s : State) (pos : AlertPos) (a : AlertRecord) (final : AlertState) : State :=
  (({ s with ring := { s.ring with
      alerts := s.ring.alerts.set pos.1 (some { a with
        state := final, phase := none, burst := none, expires := none, cause := none, answering := none,
        reportPending := true }) pos.2
      placed := s.ring.placed.erase pos } : State }).returnMembers a.members).enterFree a.bearer

/-- R103 to R105, R116: CANCEL_ALERT by what stands under the number, and the ring timeout: an outstanding alert ends, its
bearer passes through the entry rule and the account re-evaluates. That it does so once, after the whole action, that the OK
reply shows the answering line and the cause absent, and that a ring timeout that does not run has no effect, are the
model's readings (log entries 18, 25 and 27). -/
def Obligations.CancelAndRingTimeoutEndAnAlert : Prop :=
  ∀ s : State,
    (s.sli.replies.length < 4 →
      let u := arrived s
      (∀ number, (∀ p a, u.alertAt p = some a → a.number ≠ number) →
        exec (.cancelAlert number) s = .next (replied u 0x91 [9, octet number])) ∧
      ∀ (p : AlertPos) (a : AlertRecord), u.alertAt p = some a →
        (∀ q b, q < p → u.alertAt q = some b → b.number ≠ a.number) →
        (a.state = .queued ∨ a.state = .placed →
          exec (.cancelAlert a.number) s =
            .next (replied ((endedReturning u p a .cancelled).settle u.committed) 0x91
              [0, octet a.number, 4, 0xFF, 0xFF])) ∧
        (a.state ≠ .queued → a.state ≠ .placed →
          exec (.cancelAlert a.number) s =
            .next (replied u 0x91 [10, octet a.number, octet a.state.code, orAbsent (a.answering.map Fin.val),
              orAbsent (a.cause.map AlertCause.code)]))) ∧
    ∀ p : AlertPos,
      (∀ a x, s.alertAt p = some a → a.expires = some x → a.state = .queued ∨ a.state = .placed →
        exec (.ringTimeout p) s = .next ((endedReturning s p a .noAnswer).settle s.committed)) ∧
      ((∀ a, s.alertAt p = some a → a.expires = none ∨ (a.state ≠ .queued ∧ a.state ≠ .placed)) →
        exec (.ringTimeout p) s = .next s)

/-- R82, Table 4-4: BLOCK_BEARER by the bearer's state; the reply shows the state and the flag after the request. -/
def Obligations.BlockBearerActsByBearerState : Prop :=
  ∀ s : State, s.sli.replies.length < 4 →
    (∀ v, 6 ≤ v → exec (.blockBearer v) s = .next (replied (arrived s) 0x94 [2, octet v])) ∧
    ∀ b : BearerNo,
      let u := arrived s
      let r := u.bearer b
      let blocked := fun (w : State) (body : List Octet) =>
        exec (.blockBearer b.1) s = .next (replied w 0x94 (0 :: octet b.1 :: body))
      (r.state = .free →
        blocked (({ u with pool := { u.pool with freeList := u.pool.freeList.erase b } } : State).modBearer b fun x =>
          { x with state := .blocked, downReason := none, holder := none,
                   events := addKind BearerEvent.all .blocked x.events }) [4, yesNo r.blockPending]) ∧
      (r.state = .busy ∨ r.state = .reserved ∨ (r.state = .down ∧ r.downReason ≠ some .testFailed) →
        blocked (u.modBearer b fun x => { x with blockPending := true }) [octet r.state.code, 1]) ∧
      (∀ t, r.state = .testing → u.test = some t → t.bearer = b →
        blocked (({ u with test := none } : State).modBearer b fun x =>
          { x with state := .blocked, downReason := none, holder := none
                   outcome := .aborted, abortCause := some .block, errorCount := t.errorCount, locked := t.locked
                   events := addKind BearerEvent.all .blocked (addKind BearerEvent.all .testEnded x.events) })
          [4, yesNo r.blockPending]) ∧
      (r.state = .blocked → blocked u [4, yesNo r.blockPending]) ∧
      (r.state = .down → r.downReason = some .testFailed →
        blocked (u.modBearer b fun x =>
          { x with state := .blocked, downReason := none, holder := none,
                   events := addKind BearerEvent.all .blocked x.events }) [4, yesNo r.blockPending])

/-- R84, Table 4-5: UNBLOCK_BEARER by the bearer's state and its flag; a refused request changes nothing and shows the
unchanged state and flag. -/
def Obligations.UnblockBearerActsByBearerState : Prop :=
  ∀ s : State, s.sli.replies.length < 4 →
    (∀ v, 6 ≤ v → exec (.unblockBearer v) s = .next (replied (arrived s) 0x95 [2, octet v])) ∧
    ∀ b : BearerNo,
      let u := arrived s
      let r := u.bearer b
      let unblocked := u.modBearer b fun x => { x with events := addKind BearerEvent.all .unblocked x.events }
      let entered := unblocked.enterFree b
      let accepted := fun w : State => exec (.unblockBearer b.1) s = .next (replied w 0x95
        [0, octet b.1, octet (w.bearer b).state.code, yesNo (w.bearer b).blockPending])
      (r.state = .blocked → u.highway.state = .down →
        accepted (u.modBearer b fun x =>
          { x with state := .down, downReason := some .highway,
                   events := addKind BearerEvent.all .unblocked x.events })) ∧
      (r.state = .blocked → u.highway.state ≠ .down → accepted entered) ∧
      (r.state = .down → r.downReason = some .testFailed → accepted entered) ∧
      (r.state = .busy ∨ r.state = .reserved ∨ (r.state = .down ∧ r.downReason ≠ some .testFailed) →
        r.blockPending = true → accepted (u.modBearer b fun x => { x with blockPending := false })) ∧
      ((r.state = .busy ∨ r.state = .reserved ∨ (r.state = .down ∧ r.downReason ≠ some .testFailed)) ∧
          r.blockPending = false ∨ r.state = .free ∨ r.state = .testing →
        exec (.unblockBearer b.1) s =
          .next (replied u 0x95 [4, octet b.1, octet r.state.code, yesNo r.blockPending]))

/-- R71: the entry rule. A pending block takes the bearer, else the head of the seizure queue does, else the bearer joins
the tail of the free list. -/
def Obligations.BearerEntersFreeByTheEntryRule : Prop :=
  ∀ (s : State) (b : BearerNo),
    ((s.bearer b).blockPending = true →
      s.enterFree b = s.modBearer b fun r =>
        { r with state := .blocked, downReason := none, holder := none, blockPending := false,
                 events := addKind BearerEvent.all .blocked r.events }) ∧
    (∀ n c rest, (s.bearer b).blockPending = false → s.pool.queue = (n, c) :: rest →
      s.enterFree b = granted { s with pool := { s.pool with queue := rest } } n b) ∧
    ((s.bearer b).blockPending = false → s.pool.queue = [] →
      s.enterFree b = ({ s with pool := { s.pool with freeList := s.pool.freeList ++ [b] } } : State).modBearer b
        fun r => { r with state := .free, downReason := none, holder := none })

/-- R137, R138: TEST_BEARER, its five checks in order, the clamp of the duration, and the test as it starts. That the
reply to an accepted request shows TESTING is read from the rule (log entry 11). -/
def Obligations.TestBearerChecksThenStarts : Prop :=
  ∀ (s : State) (duration threshold inject yields : Nat), s.sli.replies.length < 4 →
    (∀ v, 6 ≤ v → exec (.testBearer v duration threshold inject yields) s =
      .next (replied (arrived s) 0x96 [2, octet v, 0xFF])) ∧
    ∀ b : BearerNo,
      let u := arrived s
      let r := u.bearer b
      let refused := fun code : Octet => exec (.testBearer b.1 duration threshold inject yields) s =
        .next (replied u 0x96 [code, octet b.1, octet r.state.code])
      (2 ≤ inject ∨ 2 ≤ yields → refused 1) ∧
      (inject < 2 → yields < 2 →
        (u.test ≠ none → refused 3) ∧
        (u.test = none →
          (r.state = .busy ∨ r.state = .reserved ∨ r.state = .testing → refused 3) ∧
          (r.state = .blocked ∨ r.state = .down → refused 4) ∧
          (r.state = .free →
            exec (.testBearer b.1 duration threshold inject yields) s =
              .next (replied (({ u with
                pool := { u.pool with freeList := u.pool.freeList.erase b }
                test := some
                  { bearer := b, duration := max 1 (min 60 duration), threshold := threshold
                    inject := decide (inject = 1), yields := decide (yields = 1), began := s.now, locked := false
                    errorCount := 0, generator := 0x7FFF, invertNext := false, sentBit := none, injections := 0
                    checker := { register := 0, filled := 0, run := 0, window := [] } } } : State).modBearer b
                  fun x => { x with state := .testing, downReason := none, holder := none })
                0x96 [0, octet b.1, 3, octet (max 1 (min 60 duration)), octet threshold, octet inject,
                  octet yields]))))

/-- R121 with R99, R116 to R120: SET_POWER clamps, takes the capacity, brings the phases within a cut, takes the budget,
sheds if the total exceeds it, re-evaluates and examines the flag. That a cut which lowered nothing is followed by the
placement try alone is read from R97 and R99 (log entry 28). A request that repeats the values in force of an account within
its budget changes nothing. A phase above the capacity gives back its most recently placed alert until it fits, and the
other phases are untouched. Re-evaluation admits the head of the feed wait list while the total and 6 PU fit the budget,
then tries placement, then gives the first line of the feed roll that may have it FULL while the total and 3 PU fit; it
follows an action after which the total is lower, and the flag is examined last. -/
def Obligations.SetPowerTakesItsSteps : Prop :=
  (∀ (s : State) (budget capacity : Nat), s.sli.replies.length < 4 →
    let u := arrived s
    let newBudget := min 600 budget
    let newCapacity := max 1 (min 12 capacity)
    let taken := ({ u with ring := { u.ring with capacity := newCapacity } } : State)
    let fitted := if newCapacity < u.ring.capacity then taken.fitPhases else taken
    let limited := ({ fitted with power := { fitted.power with budget := newBudget } } : State)
    let left := if newBudget < limited.committed then limited.shed else limited
    let w := (if left.committed < u.committed ∨ u.power.budget < newBudget ∨ u.ring.capacity < newCapacity then
        left.reevaluate
      else if newCapacity < u.ring.capacity then left.tryPlacement else left).examine
    exec (.setPower budget capacity) s =
      .next (replied w 0x98 [0, octet (newBudget / 256), octet newBudget, octet newCapacity]) ∧
    w.power.budget = newBudget ∧ w.ring.capacity = newCapacity ∧
    (w.power.overcommit = true ↔ newBudget < w.committed) ∧
    (newBudget = u.power.budget → newCapacity = u.ring.capacity → u.committed ≤ newBudget →
      u.power.overcommit = false → w = u) ∧
    w.highway = u.highway ∧ w.test = u.test ∧ w.pool = u.pool ∧ w.sli.replies = u.sli.replies ∧ w.periods = u.periods ∧
    w.scanner = u.scanner ∧ w.mode = u.mode ∧ w.straps = u.straps ∧ w.now = u.now) ∧
  ∀ s : State,
    ((∀ p, s.phaseLoad p ≤ s.ring.capacity) → s.fitPhases = s) ∧
    (∀ p front pos back a, s.ring.capacity < s.phaseLoad p → (∀ q, q < p → s.phaseLoad q ≤ s.ring.capacity) →
      s.ring.placed = front ++ pos :: back → pos ∉ front → s.alertAt pos = some a → a.state = .placed →
      a.phase = some p → (∀ q ∈ back, ∀ b, s.alertAt q = some b → b.state = .placed → b.phase ≠ some p) →
      s.fitPhases = ({ s with ring := { s.ring with
        placed := front ++ back
        alerts := s.ring.alerts.set pos.1 (some
          { a with state := .queued, phase := none, burst := none, reportPending := true }) pos.2 } } : State).fitPhases) ∧
    (∀ pos a, s.alertAt pos = some a →
      a.state ≠ .placed ∨ (∀ p, a.phase = some p → s.phaseLoad p ≤ s.ring.capacity) → s.fitPhases.alertAt pos = some a) ∧
    (∀ n rest, s.power.waitList = n :: rest →
      let admitted := fun c : Feed => s.reevaluate =
        ((({ s with power := { s.power with roll := s.power.roll ++ [n], waitList := rest } } : State).modLine n fun r =>
          { r with callState := .dial, feed := c, digits := [], planMatch := none, callNumber := r.callNumber + 1,
                   events := addKind LineEvent.all .originated r.events }).enterDial n).reevaluate
      ((s.line n).ceiling = .full → s.committed + 9 ≤ s.power.budget → admitted .full) ∧
      ((s.line n).ceiling = .reduced ∨ s.power.budget < s.committed + 9 → s.committed + 6 ≤ s.power.budget →
        admitted .reduced)) ∧
    (s.power.waitList = [] ∨ s.power.budget < s.committed + 6 →
      (s.ring.accepted.Nodup → s.reevaluate = s.tryPlacement.reevaluate) ∧
      (s.tryPlacement = s →
        (∀ front n back, s.power.roll = front ++ n :: back →
          (∀ m ∈ front, ¬ ((s.line m).feed = .reduced ∧ (s.line m).ceiling = .full)) →
          (s.line n).feed = .reduced → (s.line n).ceiling = .full → s.committed + 3 ≤ s.power.budget →
          s.reevaluate = (s.modLine n fun r =>
            { r with feed := .full, events := addKind LineEvent.all .feedChanged r.events }).reevaluate) ∧
        ((∀ n ∈ s.power.roll, (s.line n).feed = .reduced → (s.line n).ceiling = .full →
          s.power.budget < s.committed + 3) → s.reevaluate = s))) ∧
    (∀ before, s.settle before = if s.committed < before then s.reevaluate.examine else s.examine) ∧
    (s.power.budget < s.committed → s.power.overcommit = false → s.examine = { s with
      power := { s.power with overcommit := true }
      sli := { s.sli with events := addKind PartEvent.all .overcommitSet s.sli.events } }) ∧
    (s.committed ≤ s.power.budget → s.power.overcommit = true → s.examine = { s with
      power := { s.power with overcommit := false }
      sli := { s.sli with events := addKind PartEvent.all .overcommitClear s.sli.events } }) ∧
    ((s.power.overcommit = true ↔ s.power.budget < s.committed) → s.examine = s)

/-- R119: shedding. While the total exceeds the budget it unplaces the most recently placed alert, and when none is left
it gives the line nearest the tail of the feed roll that draws FULL the class REDUCED; it ends with the total within the
budget, or with nothing left to shed, which is tolerated. -/
def Obligations.SheddingTakesRingingThenFeedLatestFirst : Prop :=
  ∀ s : State,
    (s.committed ≤ s.power.budget → s.shed = s) ∧
    (s.power.budget < s.committed →
      (∀ rest p a, s.ring.placed = rest ++ [p] → p ∉ rest → s.alertAt p = some a → a.state = .placed →
        s.shed = ({ s with ring := { s.ring with
          placed := rest
          alerts := s.ring.alerts.set p.1 (some
            { a with state := .queued, phase := none, burst := none, reportPending := true }) p.2 } } : State).shed) ∧
      (∀ front n back, s.ring.placed = [] → s.power.roll = front ++ n :: back → (∀ m ∈ back, (s.line m).feed ≠ .full) →
        (s.line n).feed = .full →
        s.shed = (s.modLine n fun r =>
          { r with feed := .reduced, events := addKind LineEvent.all .feedChanged r.events }).shed) ∧
      (s.ring.placed = [] → (∀ n ∈ s.power.roll, (s.line n).feed ≠ .full) → s.shed = s)) ∧
    (s.shed.committed ≤ s.power.budget ∨
      ((∀ p ∈ s.ring.placed, ∀ a, s.shed.alertAt p = some a → a.state ≠ .placed) ∧
        ∀ n ∈ s.power.roll, (s.shed.line n).feed ≠ .full))

/-- R2, R34, R51, R153: SET_TIMERS clamps its six values, echoes them and writes them; a changed supervision time restarts
the supervision timer of the controller that the request has made PRESENT, and 0 stops it. Timers that run keep their
expiry. -/
def Obligations.SetTimersClampsAndWritesPeriods : Prop :=
  ∀ (s : State) (sample first inter wait clear supervision : Nat), s.sli.replies.length < 4 →
    let u := arrived s
    let p : Periods :=
      { sample := if sample < 4 then 2 else if sample < 8 then 4 else 8
        firstDigit := max 4 (min 30 first), interdigit := max 2 (min 15 inter), waitLimit := max 2 (min 30 wait)
        clearing := max 5 (min 60 clear)
        supervision := if supervision = 0 then 0 else max 5 (min 255 supervision) }
    let body := [0, octet p.sample, octet p.firstDigit, octet p.interdigit, octet p.waitLimit, octet p.clearing,
      octet p.supervision]
    (p.supervision = u.periods.supervision →
      exec (.setTimers sample first inter wait clear supervision) s =
        .next (replied { u with periods := p } 0x99 body)) ∧
    (p.supervision ≠ u.periods.supervision →
      exec (.setTimers sample first inter wait clear supervision) s =
        .next (replied { u with
          periods := p
          sli := { u.sli with supervision :=
            if p.supervision = 0 then none else some (s.now + 1000 * p.supervision) } } 0x99 body))

/-- One LOAD_PLAN entry that no case of R58 refuses. -/
def Sys2Proof.Slice0.rowAllowed (e : PlanRow) : Prop :=
  1 ≤ e.leading.length ∧ e.leading.length ≤ 4 ∧ (∀ v ∈ e.leading, v ≤ 10) ∧ e.cls ≤ 2

/-- The plan entry of an allowed row, its expected length clamped (R58). -/
def Sys2Proof.Slice0.rowEntry (e : PlanRow) : PlanEntry :=
  { leading := e.leading.map fun v => if h : v < 10 then .num ⟨v, h⟩ else .star
    length := max e.leading.length (min 24 e.length)
    cls := if e.cls = 0 then .normal else if e.cls = 1 then .priority else .barred }

/-- R58: LOAD_PLAN is refused with BAD_RECORD in each of the rule's cases, and otherwise replaces the whole plan and
echoes the applied lengths; nothing else changes. -/
def Obligations.LoadPlanReplacesThePlanOrIsRefused : Prop :=
  ∀ (s : State) (entries : List PlanRow), s.sli.replies.length < 4 →
    (entries.length ≤ 16 → (∀ e ∈ entries, rowAllowed e) → (entries.map PlanRow.leading).Nodup →
      exec (.loadPlan entries.length entries) s = .next (replied
        { arrived s with collector := { (arrived s).collector with plan := entries.map rowEntry } } 0x9A
        (0 :: octet entries.length :: entries.map fun e => octet (rowEntry e).length))) ∧
    (16 < entries.length ∨ (∃ e ∈ entries, ¬ rowAllowed e) ∨ ¬ (entries.map PlanRow.leading).Nodup →
      exec (.loadPlan entries.length entries) s = .next (replied (arrived s) 0x9A [1]))

/-- R132, R133: LOAD_CADENCE is refused with BAD_RECORD for a bad entry or count; otherwise its durations are clamped,
rounded down and, for a ring entry, truncated to 2000 ms, the entry is replaced whole, and a running source of a tone
entry restarts at segment 1. -/
def Obligations.LoadCadenceAppliesLegalSegments : Prop :=
  ∀ (s : State) (durations : List Nat), s.sli.replies.length < 4 →
    (∀ v, 8 ≤ v ∨ durations.length = 0 ∨ 4 < durations.length →
      exec (.loadCadence v durations) s = .next (replied (arrived s) 0x9B [1])) ∧
    ∀ e : CadenceNo, 1 ≤ durations.length → durations.length ≤ 4 →
      let u := arrived s
      let legal := durations.map fun d => max 10 (min 2000 d) / 10 * 10
      ∃ applied : List Nat,
        exec (.loadCadence e.1 durations) s = .next (replied { u with tones :=
          { cadences := u.tones.cadences.set e.1 applied e.2
            dial := if e.1 = 0 ∧ u.tones.dial ≠ none then some { segment := 0, began := s.now } else u.tones.dial
            busy := if e.1 = 1 ∧ u.tones.busy ≠ none then some { segment := 0, began := s.now } else u.tones.busy
            congestion := if e.1 = 2 ∧ u.tones.congestion ≠ none then some { segment := 0, began := s.now }
              else u.tones.congestion
            howler := if e.1 = 3 ∧ u.tones.howler ≠ none then some { segment := 0, began := s.now }
              else u.tones.howler } } 0x9B
          (0 :: octet e.1 :: octet applied.length :: (applied.map twoOctets).flatten)) ∧
        (e.1 < 4 ∨ legal.sum ≤ 2000 → applied = legal) ∧
        (4 ≤ e.1 → 2000 < legal.sum → ∃ kept d rest last, legal = kept ++ d :: rest ∧ applied = kept ++ [last] ∧
          applied.sum = 2000 ∧ last ≤ d) ∧
        applied ≠ [] ∧ ∀ d ∈ applied, 10 ≤ d ∧ d ≤ 2000 ∧ d % 10 = 0

/-- Whether every condition of Table 10-2 holds. -/
def Sys2Proof.Slice0.quiet (u : State) : Prop :=
  (∀ n, (u.line n).callState = .deenergized ∨ ((u.line n).callState = .idle ∧ (u.scan n).hook = .on)) ∧
  u.scanner.energizeList = [] ∧ (∀ p, u.alertAt p = none) ∧ u.test = none ∧ u.sli.events = [] ∧
  (∀ n, (u.line n).events = []) ∧ (∀ b, (u.bearer b).events = []) ∧ u.sli.replies = []

/-- R157, R158, R152, R155: a quiet part enters conserve mode, its timers stopped and the account settled; any other is
refused with the lines that are not quiet and the set of blockers, and nothing changes. -/
def Obligations.ConserveEntersWhenQuietElseNamesBlockers : Prop :=
  ∀ (s : State) (limit : Nat), s.sli.replies.length < 4 →
    let u := arrived s
    (quiet u → exec (.conserve limit) s = .next (replied (({ u with
      mode := { u.mode with mode := .conserve, limit := if limit = 0 then none else some (s.now + 1000 * limit) }
      highway := { u.highway with grace := none, restore := none, lossFrom := none }
      sli := { u.sli with supervision := none } } : State).settle u.committed) 0x9E
        [0, octet (limit / 256), octet limit])) ∧
    (¬ quiet u → ∃ (lines : List LineNo) (energizing alerts test reports replies : Bool),
      exec (.conserve limit) s = .next (replied u 0x9E
        ([11, octet (limit / 256), octet limit, octet lines.length]
          ++ (lines.map fun n => [octet n.1, octet (u.line n).callState.code]).flatten
          ++ [octet ((if energizing then 1 else 0) + (if alerts then 2 else 0) + (if test then 4 else 0)
            + (if reports then 8 else 0) + (if replies then 16 else 0))])) ∧
      lines.Pairwise (· < ·) ∧
      (∀ n, n ∈ lines ↔ ¬ ((u.line n).callState = .deenergized ∨
        ((u.line n).callState = .idle ∧ (u.scan n).hook = .on))) ∧
      (energizing = true ↔ u.scanner.energizeList ≠ []) ∧ (alerts = true ↔ ∃ p, u.alertAt p ≠ none) ∧
      (test = true ↔ u.test ≠ none) ∧ (replies = true ↔ u.sli.replies ≠ []) ∧
      (reports = true ↔ (u.sli.events ≠ [] ∨ (∃ n, (u.line n).events ≠ []) ∨ (∃ b, (u.bearer b).events ≠ []) ∨
        ∃ p a, u.alertAt p = some a ∧ a.reportPending = true)))

/-- R171 with the RESTART columns: every block restarted in one action, configuration kept, the reply alone in the queue,
STARTED pending, and OVERCOMMIT_SET beside it if the kept budget is below 20. That the time and the count of sample instants
go on, and that the hunter stands at HUNTING after the request's frame, is the model's reading (log entry 30). -/
def Obligations.RestartResetsAndKeepsConfiguration : Prop :=
  ∀ s : State, s.sli.replies.length < 4 → ∃ t, exec .restart s = .next t ∧
    t.sli.replies = [{ type := 0x9F, body := [0] }] ∧ t.sli.sending = s.sli.sending ∧ t.sli.reportPosition = 23 ∧
    t.sli.overrun = false ∧ t.sli.controller = .lost ∧ t.sli.supervision = none ∧ t.sli.hunter = .hunting ∧
    t.sli.events = (if s.power.budget < 20 then [.started, .overcommitSet] else [.started]) ∧
    t.power = { budget := s.power.budget, roll := [], waitList := [], overcommit := decide (s.power.budget < 20) } ∧
    t.committed = 20 ∧
    t.ring = { alerts := Vector.replicate 8 none, accepted := [], placed := [], clock := 0, windowTaken := false,
               capacity := s.ring.capacity } ∧
    (∀ n, t.line n =
      { callState := .deenergized, feed := .none, signalling := (s.line n).signalling
        ringerLoad := (s.line n).ringerLoad, alertGroup := (s.line n).alertGroup, ceiling := (s.line n).ceiling
        restricted := (s.line n).restricted, callNumber := 0, digits := [], planMatch := none, bearer := none
        alert := none, receiver := none, tone := none, flashCount := 0, events := [], timer := none }) ∧
    (∀ n, t.scan n =
      { hook := .on, runCount := 0, runStart := none, lastTransition := none, pulseCount := 0, releasePoint := none
        gapPoint := none }) ∧
    t.scanner.energizeList = (if s.straps.stagger then [] else allLines) ∧
    t.scanner.groupTimer = (if s.straps.stagger then none else some (s.now + 250)) ∧
    t.collector = { receivers := Vector.replicate 4 none, waitList := [], plan := s.collector.plan } ∧
    t.pool.freeList = [] ∧ t.pool.queue = [] ∧
    (∀ b, t.bearer b =
      { state := if (s.bearer b).state = .blocked then .blocked else .down
        downReason := if (s.bearer b).state = .blocked then none else some .highway
        holder := none, blockPending := false, outcome := .none, abortCause := none, errorCount := 0, locked := false
        events := [] }) ∧
    t.tones = { cadences := s.tones.cadences, dial := none, busy := none, congestion := none, howler := none } ∧
    t.test = none ∧ t.highway.state = .down ∧ t.highway.grace = none ∧ t.highway.restore = none ∧
    t.mode = { mode := .active, wakeCause := .none, limit := none } ∧ t.periods = s.periods ∧ t.straps = s.straps ∧
    t.now = s.now ∧ t.scanner.lastSample = s.scanner.lastSample ∧ t.scanner.loops = s.scanner.loops ∧
    t.scanner.unsampled = [] ∧ t.scanner.handed = [] ∧ t.pending = s.pending

/-! ### The transmitter -/

/-- R166, R168, R170: an IDLE transmitter begins the reply at the head of the queue, or, with no reply waiting, a
PART_REPORT while part events are pending; a command that is not its choice does nothing, and neither does any while a
frame is in transmission (log entry 19). -/
def Obligations.ReplyOrPartReportBegins : Prop :=
  ∀ s : State,
    (s.sli.sending = none →
      (∀ f rest, s.sli.replies = f :: rest →
        exec .replyTransmit s = .next (sending { s with sli := { s.sli with replies := rest } } f)) ∧
      (s.sli.replies = [] → exec .replyTransmit s = .next s) ∧
      (s.sli.replies = [] → s.sli.events ≠ [] →
        exec .partReport s = .next (sending { s with sli := { s.sli with events := [], overrun := false } }
          { type := 0x41, body := twoOctets (setBits PartEvent.all s.sli.events) ++ s.partSnapshot })) ∧
      (s.sli.replies ≠ [] ∨ s.sli.events = [] → exec .partReport s = .next s)) ∧
    (s.sli.sending ≠ none → exec .replyTransmit s = .next s ∧ exec .partReport s = .next s ∧
      exec .alertReport s = .next s ∧ exec .bearerReport s = .next s ∧ exec .lineReport s = .next s)

/-- R89, R109, R168: the ALERT_REPORT of the lowest flagged position begins when nothing goes before it; the flag is
cleared, and a record that carries a final state is freed. With no flagged record the command has no effect, which is the
model's choice (log entry 19). That the report begins in either controller state is read from R154 beside R107 (log
entry 33). -/
def Obligations.AlertReportBegins : Prop :=
  ∀ s : State, s.sli.sending = none → s.sli.replies = [] → s.sli.events = [] →
    (∀ (p : AlertPos) (a : AlertRecord), s.alertAt p = some a → a.reportPending = true →
      (∀ q b, q < p → s.alertAt q = some b → b.reportPending = false) →
      let f : Frame :=
        { type := 0x44
          body := [octet a.number, octet p.1, octet a.target.kindCode, octet a.target.number, octet a.cadence.1,
            octet a.load, octet a.state.code, orAbsent (a.phase.map Fin.val), octet a.bearer.1,
            orAbsent (a.answering.map Fin.val), orAbsent (a.cause.map AlertCause.code), octet a.members.length]
            ++ a.members.map fun n => octet n.1 }
      (a.state = .queued ∨ a.state = .placed →
        exec .alertReport s = .next (sending { s with ring := { s.ring with
          alerts := s.ring.alerts.set p.1 (some { a with reportPending := false }) p.2 } } f)) ∧
      (a.state ≠ .queued → a.state ≠ .placed →
        exec .alertReport s = .next (sending { s with ring := { s.ring with
          alerts := s.ring.alerts.set p.1 none p.2
          accepted := s.ring.accepted.erase p } } f))) ∧
    ((∀ p a, s.alertAt p = some a → a.reportPending = false) → exec .alertReport s = .next s)

/-- R43, R86, R168: with nothing before it, the BEARER_REPORT of the lowest-numbered bearer with events begins and empties
its set; with no bearer event either, the LINE_REPORT of the first line after the line report position with events begins,
empties its set and its flash count, and moves the position to it. That a command without a pending set to carry has no
effect is the model's choice (log entry 19). -/
def Obligations.BearerOrLineReportBegins : Prop :=
  ∀ s : State, s.sli.sending = none → s.sli.replies = [] → s.sli.events = [] →
    (∀ p a, s.alertAt p = some a → a.reportPending = false) →
    (∀ b : BearerNo, (s.bearer b).events ≠ [] → (∀ c, c < b → (s.bearer c).events = []) →
      exec .bearerReport s = .next (sending (s.modBearer b fun r => { r with events := [] })
        { type := 0x43, body := octet (setBits BearerEvent.all (s.bearer b).events) :: s.bearerSnapshot b })) ∧
    ((∀ b, (s.bearer b).events = []) →
      exec .bearerReport s = .next s ∧
      (∀ k : LineNo, (s.line (s.sli.reportPosition + 1 + k)).events ≠ [] →
        (∀ j, j < k → (s.line (s.sli.reportPosition + 1 + j)).events = []) →
        let n := s.sli.reportPosition + 1 + k
        exec .lineReport s = .next (sending
          (({ s with sli := { s.sli with reportPosition := n } } : State).modLine n fun r =>
            { r with events := [], flashCount := 0 })
          { type := 0x42, body := threeOctets (setBits LineEvent.all (s.line n).events) ++ s.lineSnapshot n })) ∧
      ((∀ n, (s.line n).events = []) → exec .lineReport s = .next s))

/-- R168: when a frame ends the transmitter is IDLE and chooses again: a reply, part events, the lowest flagged alert, the
lowest-numbered bearer with events, the next line in turn with events; with none of them it stays IDLE. That an alert report
is among them in either controller state is read from R154 beside R107 (log entry 33). -/
def Obligations.FrameSentChoosesAgain : Prop :=
  ∀ s : State,
    (s.sli.sending = none → exec .frameSent s = .next s) ∧
    (s.sli.sending ≠ none →
      let t := ({ s with sli := { s.sli with sending := none } } : State)
      (t.sli.replies ≠ [] → exec .frameSent s = exec .replyTransmit t) ∧
      (t.sli.replies = [] → t.sli.events ≠ [] → exec .frameSent s = exec .partReport t) ∧
      (t.sli.replies = [] → t.sli.events = [] →
        ((∃ p a, t.alertAt p = some a ∧ a.reportPending = true) → exec .frameSent s = exec .alertReport t) ∧
        ((∀ p a, t.alertAt p = some a → a.reportPending = false) →
          ((∃ b, (t.bearer b).events ≠ []) → exec .frameSent s = exec .bearerReport t) ∧
          ((∀ b, (t.bearer b).events = []) → (∃ n, (t.line n).events ≠ []) →
            exec .frameSent s = exec .lineReport t) ∧
          ((∀ b, (t.bearer b).events = []) → (∀ n, (t.line n).events = []) → exec .frameSent s = .next t))))

/-! ### The Line Scanner -/

/-- The moment a transition of a line declared now is dated (R3): the first sample of its run. A run that the scanner has
not recorded began two sample periods ago (log entry 7). -/
def Sys2Proof.Slice0.dated (s : State) (n : LineNo) (t : Nat) : Prop :=
  (s.scan n).runStart = some t ∨ (s.scan n).runStart = none ∧ t = s.now - 2 * s.samplePeriod

/-- R2, R3, R9, R12: a line that is still to be sampled at the sample instant that stands is sampled; any other only shows
its loop to the instants to come (log entry 31). A sample starts, counts, fails or confirms a run; the third disagreeing
sample declares the transition, whose signal is handed over where another block takes it (R14, R20, R37; log entry 6), and an
agreeing one ends the run, which then decides what it held. -/
def Obligations.SampleInstantDebouncesTheLoop : Prop :=
  ∀ (s : State) (n : LineNo) (h : Hook),
    let u := showing (atInstant s) n h
    let t := ({ u with scanner := { u.scanner with unsampled := u.scanner.unsampled.erase n } } : State)
    let ended := (showing s n (s.scan n).hook).modScan n fun r => { r with runCount := 0, runStart := none }
    (n ∉ u.scanner.unsampled → exec (.sampleInstant n h) s = .next u) ∧
    (n ∈ u.scanner.unsampled → (s.line n).callState = .deenergized → exec (.sampleInstant n h) s = .next t) ∧
    (n ∈ u.scanner.unsampled → (s.line n).callState ≠ .deenergized →
      ((s.scan n).hook = h → (s.scan n).runCount = 0 → exec (.sampleInstant n h) s = .next t) ∧
      ((s.scan n).hook = h → (s.scan n).runCount ≠ 0 → exec (.sampleInstant n h) s = exec (.debounceRunFails n) t) ∧
      ((s.scan n).hook ≠ h →
        ((s.scan n).runCount = 0 → exec (.sampleInstant n h) s =
          .next (t.modScan n fun r => { r with runCount := 1, runStart := some s.now })) ∧
        ((s.scan n).runCount = 1 → exec (.sampleInstant n h) s = .next (t.modScan n fun r => { r with runCount := 2 })) ∧
        (2 ≤ (s.scan n).runCount → h = .on → exec (.sampleInstant n h) s = exec (.onTransition n) t) ∧
        (2 ≤ (s.scan n).runCount → h = .off →
          let hands := fun x : Handed => ∀ d, dated s n d → exec (.sampleInstant n h) s =
            .next { offAt t n d with scanner := { (offAt t n d).scanner with handed := s.scanner.handed ++ [x] } }
          (∀ k, s.mode.mode = .active → (s.line n).callState = .alerted → (s.line n).alert = some k →
            hands (.answer n k)) ∧
          (s.mode.mode = .conserve → (s.line n).callState = .idle → hands (.off n)) ∧
          ((s.mode.mode = .active → (s.line n).callState = .alerted → (s.line n).alert = none) →
            (s.mode.mode = .conserve → (s.line n).callState ≠ .idle) →
            exec (.sampleInstant n h) s = exec (.offTransition n) t)))) ∧
    ((s.scan n).runCount = 0 → exec (.debounceRunFails n) s = .next s) ∧
    ((s.scan n).runCount ≠ 0 →
      ((s.scan n).hook = .on →
        (∀ b r, (s.scan n).runStart = some b → (s.scan n).releasePoint = some r → b < r → r ≤ s.now →
          (s.line n).callState.isRelease = true →
          exec (.debounceRunFails n) s = exec (.releasePointReached n) ended) ∧
        ((s.scan n).runStart = none ∨ (s.scan n).releasePoint = none ∨ (s.line n).callState.isRelease = false ∨
            (∃ b r, (s.scan n).runStart = some b ∧ (s.scan n).releasePoint = some r ∧ (r ≤ b ∨ s.now < r)) →
          exec (.debounceRunFails n) s = .next ended)) ∧
      ((s.scan n).hook = .off →
        (∀ b g, (s.scan n).runStart = some b → (s.scan n).gapPoint = some g → b < g → g ≤ s.now →
          exec (.debounceRunFails n) s = exec (.gapPointReached n) ended) ∧
        ((s.scan n).runStart = none ∨ (s.scan n).gapPoint = none ∨
            (∃ b g, (s.scan n).runStart = some b ∧ (s.scan n).gapPoint = some g ∧ (g ≤ b ∨ s.now < g)) →
          exec (.debounceRunFails n) s = .next ended)))

/-- R6, R9, R12: an ON transition starts a break and, in a release state, sets the release point 1000 ms after it; a train
whose gap point its run did not precede closes first, and before either the signals of the line that were handed over
earlier are taken, in order (R14; log entry 6). In a line that is deenergized or already ON it has no effect. -/
def Obligations.OnTransitionStartsABreak : Prop :=
  ∀ (s : State) (n : LineNo) (t : Nat), dated s n t →
    let ready := showing (s.takeHandedOf n) n .on
    let broken := fun u : State => u.modScan n fun r =>
      { r with hook := .on, runCount := 0, runStart := none, lastTransition := some t,
               releasePoint := if (u.line n).callState.isRelease then some (t + 1000) else none }
    ((∀ x ∈ s.scanner.handed, x.line ≠ n) → s.takeHandedOf n = s) ∧
    (∀ front x back, s.scanner.handed = front ++ x :: back → (∀ y ∈ front, y.line ≠ n) → x.line = n →
      s.takeHandedOf n = (s.takeHanded x).takeHandedOf n) ∧
    ((s.line n).callState = .deenergized ∨ (s.scan n).hook = .on → exec (.onTransition n) s = .next s) ∧
    ((s.line n).callState ≠ .deenergized → (s.scan n).hook = .off →
      ((s.scan n).gapPoint = none → exec (.onTransition n) s = .next (broken ready)) ∧
      (∀ g, (s.scan n).gapPoint = some g →
        (t < g → exec (.onTransition n) s = .next (broken ready)) ∧
        (g ≤ t → exec (.onTransition n) s = .next (broken (ready.closeTrain n)))))

/-- A line whose debounced state is ON has an OFF transition declared, dated `t`, in an ACTIVE part (R3, R6; log entry 7
where its run is not recorded). -/
def Sys2Proof.Slice0.closing (s : State) (n : LineNo) (t : Nat) : Prop :=
  s.mode.mode = .active ∧ (s.scan n).hook = .on ∧ dated s n t

/-- The break that the transition ends measured `b` ms (R5). -/
def Sys2Proof.Slice0.measures (s : State) (n : LineNo) (t b : Nat) : Prop :=
  ∃ u, (s.scan n).lastTransition = some u ∧ u + b = t

/-- R6, R27, R28, R114, R120: an OFF transition in IDLE is OFF_HOOK. The line is admitted to DIAL with FULL if its ceiling is
FULL and 9 PU more fit the budget, else with REDUCED if 6 PU more fit; else it is denied and joins the feed wait list. -/
def Obligations.OffHookIsAdmittedOrDenied : Prop :=
  ∀ (s : State) (n : LineNo),
    let admitted := fun c : Feed => s.originate n =
      ((({ s with power := { s.power with roll := s.power.roll ++ [n] } } : State).modLine n fun r =>
        { r with callState := .dial, feed := c, digits := [], planMatch := none, callNumber := r.callNumber + 1,
                 events := addKind LineEvent.all .originated r.events }).enterDial n).examine
    (∀ t, closing s n t → (s.line n).callState = .idle →
      exec (.offTransition n) s = .next ((offAt s n t).originate n)) ∧
    ((s.line n).ceiling = .full → s.committed + 9 ≤ s.power.budget → admitted .full) ∧
    ((s.line n).ceiling = .reduced ∨ s.power.budget < s.committed + 9 → s.committed + 6 ≤ s.power.budget →
      admitted .reduced) ∧
    (s.power.budget < s.committed + 6 → s.originate n =
      (({ s with power := { s.power with waitList := s.power.waitList ++ [n] } } : State).modLine n fun r =>
        { r with callState := .denied, events := addKind LineEvent.all .denied r.events }).examine)

/-- A line hearing DIAL with its first-digit timer started; nothing else changed but the tone sources (R45, R130). -/
def Sys2Proof.Slice0.dialTone (s : State) (n : LineNo) : State :=
  ({ s with tones := (s.setTone n (some .dial)).tones } : State).modLine n fun r =>
    { r with tone := some .dial, timer := some { kind := .firstDigit, expires := s.now + 1000 * s.periods.firstDigit } }

/-- A receiver attached to a line (R46). -/
def Sys2Proof.Slice0.attached (s : State) (r : ReceiverNo) (n : LineNo) : State :=
  ({ s with collector := { s.collector with receivers := s.collector.receivers.set r.1 (some n) r.2 } } : State).modLine n
    fun l => { l with receiver := some r }

/-- R45 to R48, R65: entering DIAL gives a PULSE line dial tone and a TONE line the lowest-numbered FREE receiver or a place
in the wait list; a receiver given up passes to the head of the list, which gets dial tone if it has no digit yet; a line
leaving DIAL loses its timer, its pulse train and its receiver or its place. -/
def Obligations.DialEntryAndReceiversFollowTheWaitList : Prop :=
  ∀ (s : State) (n : LineNo),
    ((s.line n).signalling = .pulse → s.enterDial n = dialTone s n) ∧
    ((s.line n).signalling = .tone →
      (∀ r, s.receiverLine r = none → (∀ q, q < r → s.receiverLine q ≠ none) →
        s.enterDial n = dialTone (attached s r n) n) ∧
      ((∀ r, s.receiverLine r ≠ none) →
        s.enterDial n = ({ s with collector := { s.collector with
          waitList := s.collector.waitList ++ [n] } } : State).modLine n fun l =>
            { l with timer := some { kind := .wait, expires := s.now + 1000 * s.periods.waitLimit } })) ∧
    (∀ r : ReceiverNo,
      (s.collector.waitList = [] →
        s.handOnReceiver r = { s with collector := { s.collector with
          receivers := s.collector.receivers.set r.1 none r.2 } }) ∧
      (∀ h rest, s.collector.waitList = h :: rest →
        let t := attached { s with collector := { s.collector with waitList := rest } } r h
        ((s.line h).digits = [] → s.handOnReceiver r = dialTone t h) ∧
        ((s.line h).digits ≠ [] → s.handOnReceiver r = t))) ∧
    let v := (s.modScan n fun r => { r with pulseCount := 0, gapPoint := none }).modLine n fun r => { r with timer := none }
    ((s.line n).receiver = none → s.leaveDial n =
      { v with collector := { v.collector with waitList := v.collector.waitList.erase n } }) ∧
    (∀ r, (s.line n).receiver = some r →
      s.leaveDial n = (v.modLine n fun l => { l with receiver := none }).handOnReceiver r)

/-- R7, R9, R13, R56: a break of less than 1000 ms ends in DIAL. Below 20 ms it is ignored, and a train whose gap point has
passed closes; from 20 to 120 ms it is a pulse; from 121 ms it is MISDIAL and the line goes to CLEARING. That a line which takes
over the receiver gets its dial tone before the leaving line's tone changes is the model's choice (log entry 9). -/
def Obligations.BreakInDialIsIgnoredCountedOrMisdial : Prop :=
  ∀ (s : State) (n : LineNo) (t b : Nat), closing s n t → measures s n t b → (s.line n).callState = .dial →
    let v := offAt s n t
    (b < 20 →
      ((s.scan n).gapPoint = none → exec (.offTransition n) s = .next v) ∧
      (∀ g, (s.scan n).gapPoint = some g →
        (s.now < g → exec (.offTransition n) s = .next v) ∧
        (g ≤ s.now → exec (.offTransition n) s = .next (v.closeTrain n)))) ∧
    (20 ≤ b → b ≤ 120 → exec (.offTransition n) s = .next (v.modScan n fun r =>
      { r with pulseCount := min 11 (r.pulseCount + 1), gapPoint := some (t + 250) })) ∧
    (121 ≤ b → b < 1000 → exec (.offTransition n) s =
      .next (clearing ((v.modScan n fun r => { r with pulseCount := 0, gapPoint := none }).leaveDial n) n
        (some .congestion) .dialError))

/-- R10, R31: a break of 200 to 800 ms in CONNECTED is a FLASH, counted to at most 15; a shorter one, and one of 801 to
999 ms, is ignored. None counts as a pulse or sets a gap point. -/
def Obligations.BreakInConnectedIsFlashOrIgnored : Prop :=
  ∀ (s : State) (n : LineNo) (t b : Nat), closing s n t → measures s n t b → (s.line n).callState = .connected →
    (200 ≤ b → b ≤ 800 → exec (.offTransition n) s = .next ((offAt s n t).modLine n fun r =>
      { r with flashCount := min 15 (r.flashCount + 1), events := addKind LineEvent.all .flash r.events })) ∧
    (b < 200 ∨ (801 ≤ b ∧ b < 1000) → exec (.offTransition n) s = .next (offAt s n t))

/-- R11, R12: a break of less than 1000 ms that ends in WAIT_BEARER, CLEARING, LOCKOUT or DENIED is ignored. A break that
ends in a release state after 1000 ms or more is RELEASE, whichever of its end and its release point is taken first (log
entry 8). An OFF transition of a line that is deenergized or already OFF has no effect. -/
def Obligations.BreakElsewhereIsIgnoredOrRelease : Prop :=
  ∀ (s : State) (n : LineNo),
    (∀ t b, closing s n t → measures s n t b →
      ((s.line n).callState = .waitBearer ∨ (s.line n).callState = .clearing ∨ (s.line n).callState = .lockout ∨
          (s.line n).callState = .denied → b < 1000 →
        exec (.offTransition n) s = .next (offAt s n t)) ∧
      ((s.line n).callState.isRelease = true → 1000 ≤ b → ((s.release n).line n).callState = .idle →
        exec (.offTransition n) s = .next ((offAt (s.release n) n t).originate n))) ∧
    ((s.line n).callState = .deenergized ∨ (s.scan n).hook = .off → exec (.offTransition n) s = .next s)

/-- The part when the alert at a position has been answered by a line, from the state `v` in which the ANSWER is taken: the
alert ends ANSWERED, the line joins the roll and is CONNECTED on the alert's bearer, the other members return (R101). -/
def Sys2Proof.Slice0.answeredBy (v : State) (n : LineNo) (p : AlertPos) (a : AlertRecord) : State :=
  let joined := ({ v with
    ring := { v.ring with
      alerts := v.ring.alerts.set p.1 (some { a with
        state := .answered, phase := none, burst := none, expires := none, cause := none, answering := some n,
        reportPending := true }) p.2
      placed := v.ring.placed.erase p }
    power := { v.power with roll := v.power.roll ++ [n] } } : State).modLine n fun r => { r with feed := .reduced }
  let taken := (joined.modBearer a.bearer fun r =>
      { r with state := .busy, downReason := none, holder := some (.line n) }).modLine n fun r =>
    { r with
      feed := if r.ceiling = .full ∧ joined.committed + 3 ≤ v.power.budget then .full else .reduced
      callState := .connected, bearer := some a.bearer, timer := none, alert := none
      callNumber := r.callNumber + 1, events := addKind LineEvent.all .answered r.events }
  let done := taken.returnMembers (a.members.filter fun m => m ≠ n)
  (if done.committed < v.committed then done.reevaluate else done.tryPlacement).examine

/-- The record at a position is an outstanding alert with the number and the line as a member, and the first with the number
(R88, R101). -/
def Sys2Proof.Slice0.answerable (s : State) (n : LineNo) (k : Nat) (p : AlertPos) (a : AlertRecord) : Prop :=
  s.alertAt p = some a ∧ a.number = k ∧ (∀ q b, q < p → s.alertAt q = some b → b.number ≠ k) ∧ n ∈ a.members ∧
  (a.state = .queued ∨ a.state = .placed)

/-- No record with the number is an outstanding alert with the line as a member (R102). -/
def Sys2Proof.Slice0.unanswerable (s : State) (n : LineNo) (k : Nat) : Prop :=
  ∀ p a, s.alertAt p = some a → a.number = k → (a.state ≠ .queued ∧ a.state ≠ .placed) ∨ n ∉ a.members

/-- R36, R37, R101, R102, R116: an ANSWER is taken. The alert ends ANSWERED, the line joins the roll with FULL if its ceiling
is FULL and 3 PU more than the total with REDUCED fit the budget, it is CONNECTED on the alert's bearer with a new call
number, the other members return, and the account closes; that the placement try follows alone where the total has not
fallen is read from R97 (log entry 29). An OFF_TRANSITION in ALERTED takes its ANSWER itself; one that no outstanding alert
of the line stands for is not taken (log entry 6). An ANSWER that was handed over, and is taken later, does the same; one
that finds its alert ended is an origination of a line returned to IDLE, an ANSWER for the later alert of a line ALERTED
again, and is discarded for a line that is DEENERGIZED. -/
def Obligations.AnswerConnectsTheAlertedLine : Prop :=
  ∀ (s : State) (n : LineNo),
    (∀ t, closing s n t → (s.line n).callState = .alerted →
      (∀ k p a, (s.line n).alert = some k → answerable s n k p a →
        exec (.offTransition n) s = .next (answeredBy (offAt s n t) n p a)) ∧
      ((∀ k, (s.line n).alert = some k → unanswerable s n k) →
        exec (.offTransition n) s = .next (offAt s n t))) ∧
    ∀ k : Nat,
      let v := without s (.answer n k)
      (∀ p a, answerable s n k p a → s.takeHanded (.answer n k) = answeredBy v n p a) ∧
      (unanswerable s n k →
        ((s.line n).callState = .idle → s.takeHanded (.answer n k) = v.originate n) ∧
        ((s.line n).callState = .deenergized → s.takeHanded (.answer n k) = v) ∧
        ∀ j p a, (s.line n).callState = .alerted → (s.line n).alert = some j → answerable s n j p a →
          s.takeHanded (.answer n k) = answeredBy v n p a)

/-- R12, R28 to R31, R34, R35, R37, R79, R81, R116: at its release point a line in a release state that no OFF run began
before is RELEASED: what it holds is given up by its state, it is back in IDLE, and the account closes. That the next line
of a receiver gets its dial tone before the tone of the line leaving DIAL ends, and a line that re-evaluation admits gets it
after that, is the model's choice (log entry 9). -/
def Obligations.ReleasePointReleasesTheLine : Prop :=
  ∀ (s : State) (n : LineNo),
    ((s.scan n).releasePoint = none → exec (.releasePointReached n) s = .next s) ∧
    ∀ r : Nat, (s.scan n).releasePoint = some r →
      ((s.line n).callState.isRelease = false → exec (.releasePointReached n) s =
        .next (s.modScan n fun x => { x with releasePoint := none })) ∧
      ((s.line n).callState.isRelease = true → (∃ b, (s.scan n).hook = .on ∧ (s.scan n).runStart = some b ∧ b < r) →
        exec (.releasePointReached n) s = .next s) ∧
      ((s.scan n).hook = .off ∨ (s.scan n).runStart = none ∨ (∃ b, (s.scan n).runStart = some b ∧ r ≤ b) →
        let v := s.modScan n fun x => { x with pulseCount := 0, gapPoint := none, releasePoint := none }
        let released := fun w : State => s.release n = (idled w n).settle s.committed ∧
          exec (.releasePointReached n) s = .next (s.release n)
        ((s.line n).callState = .denied →
          released { v with power := { v.power with waitList := v.power.waitList.erase n } }) ∧
        ((s.line n).callState = .dial → released (v.leaveDial n)) ∧
        ((s.line n).callState = .waitBearer →
          released { v with pool := { v.pool with queue := v.pool.queue.filter fun e => e.1 ≠ n } }) ∧
        (∀ b, (s.line n).callState = .connected → (s.line n).bearer = some b →
          released ((v.modLine n fun l => { l with bearer := none }).enterFree b)) ∧
        ((s.line n).callState = .clearing ∨ (s.line n).callState = .lockout → released v))

/-- R8, R9: at its gap point a train that no break began before closes: in DIAL one to ten pulses are a DIGIT, ten being 0,
and eleven or more are MISDIAL. That a line which takes over the receiver of a MISDIAL gets its dial tone before the leaving
line's tone changes is the model's choice (log entry 9). -/
def Obligations.GapPointClosesTheTrain : Prop :=
  ∀ (s : State) (n : LineNo),
    let v := s.modScan n fun r => { r with pulseCount := 0, gapPoint := none }
    ((s.scan n).gapPoint = none → exec (.gapPointReached n) s = .next s) ∧
    (∀ g b, (s.scan n).gapPoint = some g → b < g →
      ((s.scan n).hook = .off ∧ (s.scan n).runStart = some b ∨ (s.scan n).hook = .on ∧ (s.scan n).lastTransition = some b) →
      exec (.gapPointReached n) s = .next s) ∧
    (∀ g, (s.scan n).gapPoint = some g →
      ((s.scan n).hook = .off ∧ ((s.scan n).runStart = none ∨ ∃ b, (s.scan n).runStart = some b ∧ g ≤ b) ∨
        (s.scan n).hook = .on ∧ ((s.scan n).lastTransition = none ∨ ∃ b, (s.scan n).lastTransition = some b ∧ g ≤ b)) →
      exec (.gapPointReached n) s = .next (s.closeTrain n)) ∧
    ((s.line n).callState ≠ .dial ∨ (s.scan n).pulseCount = 0 → s.closeTrain n = v) ∧
    ((s.line n).callState = .dial →
      (∀ d : Fin 10, d ≠ 0 → (s.scan n).pulseCount = d.1 → s.closeTrain n = v.appendDigit n (.num d)) ∧
      ((s.scan n).pulseCount = 10 → s.closeTrain n = v.appendDigit n (.num 0)) ∧
      (11 ≤ (s.scan n).pulseCount →
        s.closeTrain n = clearing (v.leaveDial n) n (some .congestion) .dialError))

/-- R16, R17, R26: the group timer energizes up to four lines from the head of the energize list and restarts while lines
remain. That a timer that does not run has no effect is the model's choice (log entry 27). -/
def Obligations.GroupTimerEnergizesFourLines : Prop :=
  ∀ s : State,
    (s.scanner.groupTimer = none → exec .groupTimerExpiry s = .next s) ∧
    (s.scanner.groupTimer ≠ none → ∃ t, exec .groupTimerExpiry s = .next t ∧
      t.scanner.energizeList = s.scanner.energizeList.drop 4 ∧
      t.scanner.groupTimer = (if s.scanner.energizeList.length ≤ 4 then none else some (s.now + 250)) ∧
      t.scanner.lastSample = s.scanner.lastSample ∧ t.scanner.unsampled = s.scanner.unsampled ∧
      t.scanner.loops = s.scanner.loops ∧ t.scanner.handed = s.scanner.handed ∧
      (∀ n, n ∈ s.scanner.energizeList.take 4 →
        t.line n = { s.line n with callState := .idle, feed := .sense
                                   events := addKind LineEvent.all .energized (s.line n).events } ∧
        t.scan n = { hook := .on, runCount := 0, runStart := none, lastTransition := none, pulseCount := 0
                     releasePoint := none, gapPoint := none }) ∧
      (∀ n, n ∉ s.scanner.energizeList.take 4 → t.line n = s.line n ∧ t.scan n = s.scan n) ∧
      t = { s with scanner := t.scanner, lines := t.lines })

/-! ### Digits, completion and the state timers -/

/-- A digit recorded on a line: appended, dial tone ended by the first one, the interdigit timer restarted and the plan
looked up (R54, steps 1 to 4). -/
def Sys2Proof.Slice0.recorded (s : State) (n : LineNo) (d : Digit) : State :=
  let ends := (s.line n).digits = [] ∧ (s.line n).tone = some .dial
  ({ s with tones := if ends then (s.setTone n none).tones else s.tones } : State).modLine n fun r =>
    { r with
      digits := r.digits ++ [d]
      tone := if ends then none else r.tone
      timer := some { kind := .interdigit, expires := s.now + 1000 * s.periods.interdigit }
      planMatch := lookup s.collector.plan (r.digits ++ [d]) }

/-- R53 to R56, R60: a digit of an attached receiver is taken for a line in DIAL and discarded otherwise; after it the
checks are made in the order of Table 3-5; a # with no digit is MISDIAL and with one ends the number. That
a line which takes over the receiver of a MISDIAL gets its dial tone before the leaving line's tone changes is the model's
choice (log entry 9). -/
def Obligations.ReceiverDigitIsAppendedAndChecked : Prop :=
  ∀ (s : State) (r : ReceiverNo) (n : LineNo) (d : Digit),
    let v := recorded s n d
    (∀ k, s.receiverLine r = none ∨ (s.receiverLine r = some n ∧ (s.line n).callState ≠ .dial) →
      exec (.receiverDigit r k) s = .next s) ∧
    (s.receiverLine r = some n → (s.line n).callState = .dial →
      exec (.receiverDigit r (.digit d)) s = .next (s.appendDigit n d) ∧
      ((s.line n).digits = [] → exec (.receiverDigit r .hash) s =
        .next (clearing (s.leaveDial n) n (some .congestion) .dialError)) ∧
      ((s.line n).digits ≠ [] → exec (.receiverDigit r .hash) s = .next (s.complete n))) ∧
    (23 ≤ (s.line n).digits.length → s.appendDigit n d = v.complete n) ∧
    ((s.line n).digits.length < 23 →
      (lookup s.collector.plan ((s.line n).digits ++ [d]) = none → s.appendDigit n d = v) ∧
      ∀ m, lookup s.collector.plan ((s.line n).digits ++ [d]) = some m →
        (m.cls = .barred → s.appendDigit n d = clearing (v.leaveDial n) n (some .congestion) .barred) ∧
        (m.cls ≠ .barred → m.length ≤ (s.line n).digits.length + 1 → s.appendDigit n d = v.complete n) ∧
        (m.cls ≠ .barred → (s.line n).digits.length + 1 < m.length → s.appendDigit n d = v))

/-- R59: the lookup finds the entry with the longest prefix among those whose prefix the digits begin with, or nothing. -/
def Obligations.PlanLookupFindsTheLongestPrefix : Prop :=
  ∀ (plan : List PlanEntry) (digits : List Digit),
    (lookup plan digits = none ↔ ∀ e ∈ plan, ¬ e.leading <+: digits) ∧
    ∀ m, lookup plan digits = some m → ∃ e ∈ plan, e.leading <+: digits ∧ m = { cls := e.cls, length := e.length } ∧
      ∀ f ∈ plan, f.leading <+: digits → f.leading.length ≤ e.leading.length

/-- R50, R61 to R64: the expiry of the interdigit timer completes the number. The line leaves DIAL and its tone ends; a
restricted line without a PRIORITY match, then a part whose highway is DOWN or whose controller is LOST, sends it to
CLEARING; else it is supplied with a bearer, and the account closes. -/
def Obligations.CompletionFollowsItsSteps : Prop :=
  ∀ (s : State) (n : LineNo),
    let left := s.leaveDial n
    let v := ({ left with tones := (left.setTone n none).tones } : State).modLine n fun r => { r with tone := none }
    let important := ∃ m, (v.line n).planMatch = some m ∧ m.cls = .priority
    (∀ x, (s.line n).callState = .dial → (s.line n).timer = some { kind := .interdigit, expires := x } →
      exec (.interdigitTimeout n) s = .next (s.complete n)) ∧
    ((s.line n).callState ≠ .dial ∨ (∀ x, (s.line n).timer ≠ some { kind := .interdigit, expires := x }) →
      exec (.interdigitTimeout n) s = .next s) ∧
    ((v.line n).restricted = true → ¬ important →
      s.complete n = (clearing v n (some .congestion) .restricted).settle s.committed) ∧
    ((v.line n).restricted = false ∨ important →
      (s.highway.state = .down ∨ s.sli.controller = .lost →
        s.complete n = (clearing v n (some .congestion) .congestion).settle s.committed) ∧
      (s.highway.state ≠ .down → s.sli.controller = .present →
        (important → s.complete n = (v.supply n .priority).settle s.committed) ∧
        (¬ important → s.complete n = (v.supply n .normal).settle s.committed)))

/-- A line in WAIT_BEARER at its place in a seizure queue, its wait timer started (R78). -/
def Sys2Proof.Slice0.queued (s : State) (n : LineNo) (queue : List (LineNo × QueueClass)) : State :=
  ({ s with pool := { s.pool with queue := queue } } : State).modLine n fun r =>
    { r with callState := .waitBearer, timer := some { kind := .wait, expires := s.now + 1000 * s.periods.waitLimit } }

/-- R72 to R78, R106: a completing line takes the head of the free list, else the bearer of a yielding test, else, with
PRIORITY, that of any test, else that of the newest outstanding alert, else its place in the seizure queue: a NORMAL line
at the tail, a PRIORITY line ahead of every NORMAL one. -/
def Obligations.SupplyTakesTheFirstSource : Prop :=
  ∀ (s : State) (n : LineNo) (c : QueueClass),
    let atItsPlace := ∀ hi lo, s.pool.queue = hi ++ lo →
      (c = .normal → lo = [] → s.supply n c = queued s n (hi ++ [(n, c)])) ∧
      (c = .priority → (∀ e ∈ hi, e.2 = .priority) → (∀ e, lo.head? = some e → e.2 = .normal) →
        s.supply n c = queued s n (hi ++ (n, c) :: lo))
    (∀ b rest, s.pool.freeList = b :: rest →
      s.supply n c = granted { s with pool := { s.pool with freeList := rest } } n b) ∧
    (s.pool.freeList = [] →
      (∀ t, s.test = some t →
        (t.yields = true → s.supply n c = granted (testAborted s t .giveUp) n t.bearer) ∧
        (t.yields = false → c = .priority → s.supply n c = granted (testAborted s t .preempt) n t.bearer) ∧
        (t.yields = false → c = .normal → atItsPlace)) ∧
      (s.test = none →
        (c = .normal → atItsPlace) ∧
        (c = .priority →
          (∀ front p back a, s.ring.accepted = front ++ p :: back → s.alertAt p = some a →
            a.state = .queued ∨ a.state = .placed →
            (∀ q ∈ back, ∀ b, s.alertAt q = some b → b.state ≠ .queued ∧ b.state ≠ .placed) →
            s.supply n c = granted (({ s with ring := { s.ring with
              alerts := s.ring.alerts.set p.1 (some { a with
                state := .aborted, phase := none, burst := none, expires := none, cause := some .preempted,
                answering := none, reportPending := true }) p.2
              placed := s.ring.placed.erase p } } : State).returnMembers a.members) n a.bearer) ∧
          ((∀ q ∈ s.ring.accepted, ∀ b, s.alertAt q = some b → b.state ≠ .queued ∧ b.state ≠ .placed) → atItsPlace))))

/-- R30, R34, R35, R38, R48, R49: what the expiry of a line's state timer does in the state the timer belongs to. A timer
that does not run there does not expire (log entry 27). At the first-digit expiry a line that takes over the receiver gets
its dial tone before the leaving line's tone changes, and a line that re-evaluation admits gets it after; that order is the
model's choice (log entry 9). -/
def Obligations.StateTimersExpireInTheirStates : Prop :=
  ∀ (s : State) (n : LineNo),
    let runs := fun (k : TimerKind) (c : CallState) =>
      (s.line n).callState = c ∧ ∃ x, (s.line n).timer = some { kind := k, expires := x }
    (runs .firstDigit .dial → exec (.firstDigitTimeout n) s = .next ((lockedOut (s.leaveDial n) n).settle s.committed)) ∧
    (¬ runs .firstDigit .dial → exec (.firstDigitTimeout n) s = .next s) ∧
    (runs .wait .dial → exec (.receiverWaitTimeout n) s =
      .next (clearing (s.leaveDial n) n (some .congestion) .receiverTimeout)) ∧
    (¬ runs .wait .dial → exec (.receiverWaitTimeout n) s = .next s) ∧
    (runs .wait .waitBearer → exec (.queueWaitTimeout n) s = .next (clearing
      { s with pool := { s.pool with queue := s.pool.queue.filter fun e => e.1 ≠ n } } n (some .congestion) .queueTimeout)) ∧
    (¬ runs .wait .waitBearer → exec (.queueWaitTimeout n) s = .next s) ∧
    (runs .clearing .clearing → exec (.clearingTimeout n) s = .next ((lockedOut s n).settle s.committed)) ∧
    (¬ runs .clearing .clearing → exec (.clearingTimeout n) s = .next s) ∧
    (runs .howler .lockout → exec (.howlerTimeout n) s =
      .next (({ s with tones := (s.setTone n none).tones } : State).modLine n fun r =>
        { r with tone := none, timer := none })) ∧
    (¬ runs .howler .lockout → exec (.howlerTimeout n) s = .next s)

/-! ### Ring phases and tones -/

/-- R95 to R97: the ring queue holds the QUEUED alerts in acceptance order, and an alert that is unplaced stands in it at the
position its acceptance gives. A placement try takes the head of the ring queue. A phase qualifies if its load and the
alert's fit the ring capacity and the total recomputed with that load fits the budget; of those that qualify, the one whose
window starts soonest, the lower number first, receives the alert, and the try is made again. If none qualifies nothing
changes. -/
def Obligations.PlacementTakesTheSoonestQualifyingPhase : Prop :=
  ∀ s : State,
    let away := fun p : PhaseNo => (2000 * p.1 + 6000 - s.ring.clock % 6000) % 6000
    let fits := fun (load : Nat) (p : PhaseNo) => s.phaseLoad p + load ≤ s.ring.capacity ∧
      s.baseCost + s.feedCost + s.answerReserve
        + 3 * (max (s.phaseLoad 0 + if p = 0 then load else 0)
            (max (s.phaseLoad 1 + if p = 1 then load else 0) (s.phaseLoad 2 + if p = 2 then load else 0)))
        ≤ s.power.budget
    s.ringQueue = (s.ring.accepted.filter fun p => match s.alertAt p with
      | some a => a.state = .queued
      | none => false) ∧
    (∀ front pos back a, s.ring.accepted = front ++ pos :: back → pos ∉ front → pos ∉ back → s.alertAt pos = some a →
      a.state = .placed →
      ∃ ahead behind, s.ringQueue = ahead ++ behind ∧ ahead.Sublist front ∧ behind.Sublist back ∧
        (s.unplace pos) = { s with ring := { s.ring with
          placed := s.ring.placed.erase pos
          alerts := s.ring.alerts.set pos.1 (some
            { a with state := .queued, phase := none, burst := none, reportPending := true }) pos.2 } } ∧
        (s.unplace pos).ringQueue = ahead ++ pos :: behind) ∧
    (s.ringQueue = [] → s.tryPlacement = s) ∧
    ∀ (pos : AlertPos) (rest : List AlertPos) (a : AlertRecord), s.ringQueue = pos :: rest → pos ∉ rest →
      s.alertAt pos = some a →
      ((∀ p, ¬ fits a.load p) → s.tryPlacement = s) ∧
      ∀ p : PhaseNo, fits a.load p →
        (∀ q, fits a.load q → away p < away q ∨ away p = away q ∧ p ≤ q) →
        s.tryPlacement = ({ s with ring := { s.ring with
          alerts := s.ring.alerts.set pos.1 (some { a with
            state := .placed, phase := some p, reportPending := true
            burst := if away p = 0 then startBurst s.tones.cadences[a.cadence] s.now else none }) pos.2
          placed := s.ring.placed.erase pos ++ [pos] } } : State).tryPlacement

/-- R94, R128, R158: at a window start of a phase every alert PLACED in it begins a burst with a copy of its cadence entry;
none does in conserve mode. A segment of a burst is followed by the next one of the copy, and the last by the burst's end. -/
def Obligations.WindowStartsBurstsAndSegmentsFollow : Prop :=
  ∀ (s : State) (phase : PhaseNo),
    (s.mode.mode = .conserve → exec (.phaseWindowStart phase) s = .next s) ∧
    (s.mode.mode = .active → ∃ alerts, exec (.phaseWindowStart phase) s = .next { s with ring := { s.ring with
        alerts := alerts, windowTaken := s.ring.windowTaken || decide (s.ring.clock = 2000 * phase.1) } } ∧
      ∀ p : AlertPos, alerts[p] = (s.alertAt p).map fun a =>
        if a.state = .placed ∧ a.phase = some phase then
          { a with burst := match s.tones.cadences[a.cadence] with
            | [] => none
            | d :: _ => some { segments := s.tones.cadences[a.cadence], segment := 0, ends := s.now + d } }
        else a) ∧
    ∀ p : AlertPos,
      (s.alertAt p = none → exec (.ringSegmentEnd p) s = .next s) ∧
      ∀ a, s.alertAt p = some a →
        (a.burst = none → exec (.ringSegmentEnd p) s = .next s) ∧
        ∀ b, a.burst = some b →
          (∀ d, b.segments[b.segment + 1]? = some d →
            exec (.ringSegmentEnd p) s = .next (s.setAlert p (some { a with
              burst := some { segments := b.segments, segment := b.segment + 1, ends := b.ends + d } }))) ∧
          (b.segments.length ≤ b.segment + 1 →
            exec (.ringSegmentEnd p) s = .next (s.setAlert p (some { a with burst := none })))

/-- R39, R127, R129, R130: a running source goes from segment to segment of its entry, after the last to the first; an idle
one, and one whose entry has a single segment, has no segment end. A tone written to a line starts its source at segment 1
if it was IDLE, leaves a RUNNING one where it is, and makes the source it leaves IDLE if no other line hears it. -/
def Obligations.ToneSourcesRunWhileHeard : Prop :=
  ∀ s : State,
    (∀ k : ToneKind,
      (s.tones.source k = none ∨ s.tones.cadences[toneEntry k].length ≤ 1 → exec (.toneSegmentEnd k) s = .next s) ∧
      ∀ q : TonePosition, s.tones.source k = some q → 2 ≤ s.tones.cadences[toneEntry k].length →
        exec (.toneSegmentEnd k) s = .next { s with tones := s.tones.setSource k (some
          { segment := if q.segment + 1 < s.tones.cadences[toneEntry k].length then q.segment + 1 else 0
            began := q.began + s.tones.cadences[toneEntry k].getD q.segment 0 }) }) ∧
    ∀ (n : LineNo) (t : Option ToneKind),
      let v := s.setTone n t
      v = { s with lines := v.lines, tones := v.tones } ∧ v.tones.cadences = s.tones.cadences ∧
      (∀ m, v.line m = if m = n then { s.line n with tone := t } else s.line m) ∧
      ((s.line n).tone = t → v = s) ∧
      ((s.line n).tone ≠ t → ∀ k : ToneKind,
        (t = some k → s.tones.source k ≠ none → v.tones.source k = s.tones.source k) ∧
        (t = some k → s.tones.source k = none → v.tones.source k = some { segment := 0, began := s.now }) ∧
        ((s.line n).tone = some k → (∃ m, m ≠ n ∧ (s.line m).tone = some k) → v.tones.source k = s.tones.source k) ∧
        ((s.line n).tone = some k → (∀ m, m ≠ n → (s.line m).tone ≠ some k) → v.tones.source k = none) ∧
        (t ≠ some k → (s.line n).tone ≠ some k → v.tones.source k = s.tones.source k))

/-! ### The tester, the highway, the controller and the wake -/

/-- A shift register of 15 stages, stage k being bit k - 1, after a bit has been shifted into stage 1 (R138). -/
def Sys2Proof.Slice0.shifted (r : BitVec 15) (b : Bool) (r' : BitVec 15) : Prop :=
  r'.getLsbD 0 = b ∧ ∀ k, k < 14 → r'.getLsbD (k + 1) = r.getLsbD k

/-- R138 to R142: the duration ends a test with PASS, its bearer passing through the entry rule, if the checker is LOCKED
and the errors are within the threshold, else with FAIL, its bearer DOWN(TEST_FAILED). An injection inverts the next bit;
LOCK, BIT_ERROR and LOCK_LOST set the checker, count while LOCKED to at most 255, and clear it. What these three make of the
model's own checker when they are taken as commands, and that none has an effect with no test running, are the model's
choices (log entries 14 and 27). Bit by bit, the generator sends stage 15 and shifts in the sum of stages 15 and 14, and the
checker fills its register, counts correct predictions to 32 and locks, then compares, and loses its lock at the eighth
mismatch in 64 bits. That its window starts empty after a lost lock and at a new one is the model's choice too (log
entry 14). -/
def Obligations.TestCountsReportsAndEndsWithItsOutcome : Prop :=
  (∀ s : State,
    (s.test = none → exec .testDurationExpiry s = .next s ∧ exec .testInjection s = .next s ∧ exec .lock s = .next s ∧
      exec .bitError s = .next s ∧ exec .lockLost s = .next s) ∧
    ∀ t : TestContext, s.test = some t →
      let ended := fun outcome : TestOutcome => ({ s with test := none } : State).modBearer t.bearer fun r =>
        { r with outcome := outcome, abortCause := none, errorCount := t.errorCount, locked := t.locked,
                 events := addKind BearerEvent.all .testEnded r.events }
      (t.locked = true → t.errorCount ≤ t.threshold →
        exec .testDurationExpiry s = .next ((ended .pass).enterFree t.bearer)) ∧
      (t.locked = false ∨ t.threshold < t.errorCount →
        exec .testDurationExpiry s = .next ((ended .fail).modBearer t.bearer fun r =>
          { r with state := .down, downReason := some .testFailed, holder := none })) ∧
      (t.inject = true → exec .testInjection s =
        .next { s with test := some { t with invertNext := true, injections := t.injections + 1 } }) ∧
      (t.inject = false → exec .testInjection s = .next s) ∧
      exec .lock s = .next { s with test := some { t with locked := true, checker := { t.checker with window := [] } } } ∧
      (t.locked = true → exec .bitError s =
        .next { s with test := some { t with errorCount := min 255 (t.errorCount + 1) } }) ∧
      (t.locked = false → exec .bitError s = .next s) ∧
      exec .lockLost s = .next { s with
        test := some { t with locked := false, checker := { register := 0, filled := 0, run := 0, window := [] } } }) ∧
  ∀ (t : TestContext) (fresh k : Nat) (bit : Bool),
    let c := t.checker
    let expected := c.register.getLsbD 14 ^^ c.register.getLsbD 13
    t.bits fresh 0 = t ∧
    t.bits fresh (k + 1) = (t.sendBit.readBit (Config.incomingBit fresh)).bits (fresh + 1) k ∧
    (∃ g, shifted t.generator (t.generator.getLsbD 14 ^^ t.generator.getLsbD 13) g ∧
      t.sendBit = { t with sentBit := some (t.generator.getLsbD 14 ^^ t.invertNext), generator := g, invertNext := false }) ∧
    (t.locked = false → ∃ r, shifted c.register bit r ∧
      (c.filled < 15 → t.readBit bit = { t with checker := { c with register := r, filled := c.filled + 1 } }) ∧
      (15 ≤ c.filled →
        (bit ≠ expected → t.readBit bit = { t with checker := { c with register := r, run := 0 } }) ∧
        (bit = expected → c.register = 0 → c.run < 32 → t.readBit bit = { t with checker := { c with register := r } }) ∧
        (bit = expected → c.register ≠ 0 → c.run + 1 < 32 →
          t.readBit bit = { t with checker := { c with register := r, run := c.run + 1 } }) ∧
        (bit = expected → c.register ≠ 0 → 32 ≤ c.run + 1 →
          t.readBit bit = { t with locked := true, checker := { c with register := r, run := c.run + 1, window := [] } }))) ∧
    (t.locked = true → ∃ r, shifted c.register expected r ∧
      (bit = expected →
        t.readBit bit = { t with checker := { c with register := r, window := (false :: c.window).take 64 } }) ∧
      (bit ≠ expected → ((true :: c.window).take 64).count true < 8 →
        t.readBit bit = { t with
          errorCount := min 255 (t.errorCount + 1)
          checker := { c with register := r, window := (true :: c.window).take 64 } }) ∧
      (bit ≠ expected → 8 ≤ ((true :: c.window).take 64).count true →
        t.readBit bit = { t with
          locked := false, errorCount := min 255 (t.errorCount + 1)
          checker := { register := 0, filled := 0, run := 0, window := [] } }))

/-- The bearers that are DOWN for the highway pass through the entry rule, in the order given (R151). -/
def Sys2Proof.Slice0.restored (s : State) : List BearerNo → State
  | [] => s
  | b :: rest =>
    Sys2Proof.Slice0.restored
      (if (s.bearer b).state = .down ∧ (s.bearer b).downReason = some .highway then s.enterFree b else s) rest

/-- R147, R148, R151, R152: in ACTIVE a pulse starts a stopped restore timer in HIT and DOWN, a loss turns UP into HIT with
the grace timer at 2000 ms and stops the restore timer elsewhere; the restore timer ends HIT without a trace and ends DOWN
with HIGHWAY_UP and the bearers, in ascending order, through the entry rule. In CONSERVE neither pulse nor loss is seen. -/
def Obligations.HighwayFollowsPulsesAndLosses : Prop :=
  ∀ s : State,
    (s.mode.mode = .conserve → exec .framePulse s = .next s ∧ exec .highwayLoss s = .next s) ∧
    (s.mode.mode = .active →
      (s.highway.state ≠ .up → s.highway.restore = none → exec .framePulse s =
        .next { s with highway := { s.highway with lossFrom := some s.now, restore := some (s.now + 100) } }) ∧
      (s.highway.state = .up ∨ s.highway.restore ≠ none → exec .framePulse s =
        .next { s with highway := { s.highway with lossFrom := some s.now } }) ∧
      (s.highway.state = .up → exec .highwayLoss s = .next { s with
        highway := { s.highway with state := .hit, grace := some (s.now + 2000), lossFrom := none }
        sli := { s.sli with events := addKind PartEvent.all .highwayHit s.sli.events } }) ∧
      (s.highway.state ≠ .up → exec .highwayLoss s =
        .next { s with highway := { s.highway with restore := none, lossFrom := none } })) ∧
    (s.highway.restore = none ∨ s.highway.state = .up → exec .highwayRestore s = .next s) ∧
    (s.highway.restore ≠ none →
      (s.highway.state = .hit → exec .highwayRestore s =
        .next { s with highway := { s.highway with state := .up, grace := none, restore := none } }) ∧
      (s.highway.state = .down → exec .highwayRestore s = .next (restored { s with
        highway := { s.highway with state := .up, grace := none, restore := none }
        sli := { s.sli with events := addKind PartEvent.all .highwayUp s.sli.events } } [0, 1, 2, 3, 4, 5])))

/-- R32, R85, R105, R107, R142, R149: at the expiry of the grace timer the highway is DOWN: the test is aborted, every
outstanding alert ends ABORTED(HIGHWAY) and its members return, every CONNECTED line and every line of the seizure queue goes
to CLEARING with congestion, and every bearer but a BLOCKED one is DOWN(HIGHWAY). That the account closes once, after the
whole action, is read from the rule (log entry 18). -/
def Obligations.GraceExpiryTakesTheHighwayDown : Prop :=
  ∀ s : State,
    (s.highway.grace = none → exec .graceTimerExpiry s = .next s) ∧
    (s.highway.grace ≠ none → ∃ d : State, exec .graceTimerExpiry s = .next (d.settle s.committed) ∧
      d.highway = { s.highway with state := .down, grace := none } ∧ d.test = none ∧
      d.sli = { s.sli with events := addKind PartEvent.all .highwayDown s.sli.events } ∧
      d.pool.freeList = [] ∧ d.pool.queue = [] ∧
      (∀ b, d.bearer b =
        let ended := fun r : BearerRecord => match s.test with
          | some t => if t.bearer = b then
              { r with outcome := .aborted, abortCause := some .highway, errorCount := t.errorCount, locked := t.locked
                       events := addKind BearerEvent.all .testEnded r.events } else r
          | none => r
        if (s.bearer b).state = .blocked then ended (s.bearer b)
        else { ended (s.bearer b) with state := .down, downReason := some .highway, holder := none }) ∧
      (∀ p, d.alertAt p = (s.alertAt p).map fun a =>
        if a.state = .queued ∨ a.state = .placed then
          { a with state := .aborted, phase := none, burst := none, expires := none, cause := some .highway,
                   answering := none, reportPending := true }
        else a) ∧
      d.ring.accepted = s.ring.accepted ∧ d.ring.clock = s.ring.clock ∧ d.ring.capacity = s.ring.capacity ∧
      (∀ n,
        let member := ∃ p a, s.alertAt p = some a ∧ (a.state = .queued ∨ a.state = .placed) ∧ n ∈ a.members
        let waits := n ∈ s.pool.queue.map Prod.fst
        let cleared := { s.line n with
          callState := .clearing, bearer := none, tone := some .congestion
          timer := some { kind := .clearing, expires := s.now + 1000 * s.periods.clearing }
          events := addKind LineEvent.all .congestion (s.line n).events }
        ((s.line n).callState = .alerted → member → ¬ waits → d.line n = { s.line n with
          callState := .idle, feed := .sense, bearer := none, alert := none, receiver := none, tone := none
          timer := none, digits := [], planMatch := none }) ∧
        ((s.line n).callState = .alerted → ¬ member → ¬ waits → d.line n = s.line n) ∧
        ((s.line n).callState = .connected → d.line n = cleared) ∧
        ((s.line n).callState ≠ .alerted → waits → d.line n = cleared) ∧
        ((s.line n).callState ≠ .alerted → (s.line n).callState ≠ .connected → ¬ waits → d.line n = s.line n)) ∧
      d.power.budget = s.power.budget ∧ d.power.waitList = s.power.waitList ∧ d.scanner = s.scanner ∧
      d.collector = s.collector ∧ d.mode = s.mode ∧ d.periods = s.periods ∧ d.now = s.now ∧
      (∀ n, (s.line n).callState ≠ .alerted → d.power.roll.count n = s.power.roll.count n))

/-- Lines sent from the seizure queue to CLEARING with congestion, in the order given (R32, R79). -/
def Sys2Proof.Slice0.flushed (s : State) : List (LineNo × QueueClass) → State
  | [] => s
  | e :: rest => Sys2Proof.Slice0.flushed (clearing s e.1 (some .congestion) .congestion) rest

/-- R32, R154: the supervision timer expires: the controller is LOST, CONTROLLER_LOST is pending and the seizure queue is
flushed. That a timer that does not run has no effect is the model's choice (log entry 27). -/
def Obligations.SupervisionTimeoutLosesTheController : Prop :=
  ∀ s : State,
    (s.sli.supervision = none → exec .supervisionTimeout s = .next s) ∧
    (s.sli.supervision ≠ none → exec .supervisionTimeout s = .next (flushed { s with
      sli := { s.sli with controller := .lost, supervision := none
                          events := addKind PartEvent.all .controllerLost s.sli.events }
      pool := { s.pool with queue := [] } } s.pool.queue))

/-- The part woken by a line or by the limit timer (R152, R155, R161): ACTIVE, the ring cycle from 0, the highway observed
from its held state, a PRESENT controller supervised again, WOKE pending, re-evaluation and the flag. -/
def Sys2Proof.Slice0.woken (s : State) (cause : WakeCause) : State :=
  ({ s with
    mode := { mode := .active, wakeCause := cause, limit := none }
    ring := { s.ring with clock := 0, windowTaken := false }
    highway := (match s.highway.state with
      | .up => { s.highway with lossFrom := some s.now }
      | .hit => { s.highway with grace := some (s.now + 2000), restore := none }
      | .down => { s.highway with restore := none })
    sli := { s.sli with
      events := addKind PartEvent.all .woke s.sli.events
      supervision := if s.sli.controller = .lost then s.sli.supervision
        else if s.periods.supervision = 0 then none else some (s.now + 1000 * s.periods.supervision) } }
    : State).reevaluate.examine

/-- R20, R160 to R162: in CONSERVE the expiry of the limit timer wakes the part, and so does an OFF transition, which is
then classified in the ACTIVE part, whether the command takes it or it was handed over to Mode Control (log entry 6); in
ACTIVE the limit timer has no effect. -/
def Obligations.LimitTimerOrLineWakesThePart : Prop :=
  ∀ s : State,
    (s.mode.mode = .conserve → s.mode.limit ≠ none → exec .limitTimerExpiry s = .next (woken s .timer)) ∧
    (s.mode.mode = .active ∨ s.mode.limit = none → exec .limitTimerExpiry s = .next s) ∧
    ∀ n : LineNo, s.mode.mode = .conserve →
      (∀ t, (s.line n).callState ≠ .deenergized → (s.scan n).hook = .on → dated s n t →
        ((woken s (.line n)).line n).callState = .idle →
        exec (.offTransition n) s = .next ((offAt (woken s (.line n)) n t).originate n)) ∧
      let w := woken (without s (.off n)) (.line n)
      ((w.line n).callState = .idle → s.takeHanded (.off n) = w.originate n) ∧
      ((w.line n).callState = .deenergized → s.takeHanded (.off n) = w)

/-! ### Invariants -/

/-- The ranges of the state: at most four replies wait (R166); the seizure queue is empty or no bearer is FREE (R77); the
ring cycle clock, the ring capacity and the budget stay in range (R93, R121); the grace timer runs only in HIT and the
restore timer never in UP (Table 9-1); flash counts, pulse counts and run counts stay within 15, 11 and 2 (R3, R7, R31). -/
def Sys2Proof.Slice0.rangesKept (s : State) : Prop :=
  Safety.repliesFit s ∧ Safety.queueOrFree s ∧ Safety.rangesHold s ∧ Safety.highwayTimersAgree s ∧
  (∀ n, (s.line n).flashCount ≤ 15) ∧ ∀ n, (s.scan n).pulseCount ≤ 11 ∧ (s.scan n).runCount ≤ 2

/-- No phase holds more ringing load than the ring capacity, and every PLACED alert stands in the placement order (R96,
R99). -/
def Sys2Proof.Slice0.phasesFit (s : State) : Prop :=
  (∀ p, s.phaseLoad p ≤ s.ring.capacity) ∧
  ∀ pos a, s.alertAt pos = some a → a.state = .placed → pos ∈ s.ring.placed

/-- A tone source is RUNNING exactly while a line's tone field names it (R129). -/
def Sys2Proof.Slice0.sourcesRunWhileHeard (s : State) : Prop :=
  ∀ k : ToneKind, s.tones.source k ≠ none ↔ ∃ n, (s.line n).tone = some k

/-- The state after reset is the one POWER_ON leaves with all straps 0 (the model's choice, log entry 4), and it meets the
three invariants. -/
def Obligations.ResetIsPowerOnAndMeetsTheInvariants : Prop :=
  exec (.powerOn false false 0) State.reset = .next State.reset ∧
  rangesKept State.reset ∧ phasesFit State.reset ∧ sourcesRunWhileHeard State.reset

/-- Every step keeps the ranges. -/
def Obligations.EveryStepKeepsTheRanges : Prop :=
  ∀ s t : State, rangesKept s → step s = .next t → rangesKept t

/-- R96, R99: every step keeps each phase's load within the ring capacity and every PLACED alert in the placement order. -/
def Obligations.EveryStepKeepsPhasesWithinCapacity : Prop :=
  ∀ s t : State, phasesFit s → step s = .next t → phasesFit t

/-- R129, R130: every step keeps each tone source RUNNING exactly while it has a listener. -/
def Obligations.EveryStepKeepsToneSourcesWithTheirListeners : Prop :=
  ∀ s t : State, sourcesRunWhileHeard s → step s = .next t → sourcesRunWhileHeard t

end Slice0
end

