-- ==== Sys2Proof/Laws/State.lean ====
section
/-! SUPPORT. The laws of the state's own updates: reading a record that was written, and which blocks an update leaves
alone, all true by unfolding the update once. -/

namespace Sys2Proof.Machine

/-! ### Reading what was written -/

@[simp] theorem State.line_modLine (s : State) (n m : LineNo) (f : LineRecord → LineRecord) :
    (s.modLine n f).line m = if m = n then f (s.line n) else s.line m := by
  unfold State.modLine State.line
  simp only [Fin.getElem_fin, Vector.getElem_set]
  by_cases h : m = n
  · subst h; simp
  · have : ¬ n.1 = m.1 := fun e => h (Fin.ext e.symm)
    simp [h, this]

@[simp] theorem State.scan_modScan (s : State) (n m : LineNo) (f : ScanRecord → ScanRecord) :
    (s.modScan n f).scan m = if m = n then f (s.scan n) else s.scan m := by
  unfold State.modScan State.scan
  simp only [Fin.getElem_fin, Vector.getElem_set]
  by_cases h : m = n
  · subst h; simp
  · have : ¬ n.1 = m.1 := fun e => h (Fin.ext e.symm)
    simp [h, this]

@[simp] theorem State.bearer_modBearer (s : State) (b c : BearerNo) (f : BearerRecord → BearerRecord) :
    (s.modBearer b f).bearer c = if c = b then f (s.bearer b) else s.bearer c := by
  unfold State.modBearer State.bearer
  simp only [Fin.getElem_fin, Vector.getElem_set]
  by_cases h : c = b
  · subst h; simp
  · have : ¬ b.1 = c.1 := fun e => h (Fin.ext e.symm)
    simp [h, this]

@[simp] theorem State.alertAt_setAlert (s : State) (p q : AlertPos) (a : Option AlertRecord) :
    (s.setAlert p a).alertAt q = if q = p then a else s.alertAt q := by
  unfold State.setAlert State.alertAt
  simp only [Fin.getElem_fin, Vector.getElem_set]
  by_cases h : q = p
  · subst h; simp
  · have : ¬ p.1 = q.1 := fun e => h (Fin.ext e.symm)
    simp [h, this]

@[simp] theorem State.alertAt_modAlert (s : State) (p q : AlertPos) (f : AlertRecord → AlertRecord) :
    (s.modAlert p f).alertAt q = if q = p then (s.alertAt p).map f else s.alertAt q := by
  simp [State.modAlert]

@[simp] theorem State.receiverLine_setReceiver (s : State) (r q : ReceiverNo) (n : Option LineNo) :
    (s.setReceiver r n).receiverLine q = if q = r then n else s.receiverLine q := by
  unfold State.setReceiver State.receiverLine
  simp only [Fin.getElem_fin, Vector.getElem_set]
  by_cases h : q = r
  · subst h; simp
  · have : ¬ r.1 = q.1 := fun e => h (Fin.ext e.symm)
    simp [h, this]

/-- A record is read from one field only. -/
theorem State.line_of_lines {s t : State} (h : t.lines = s.lines) (n : LineNo) : t.line n = s.line n := by
  unfold State.line; rw [h]

theorem State.scan_of_scanner {s t : State} (h : t.scanner = s.scanner) (n : LineNo) : t.scan n = s.scan n := by
  unfold State.scan; rw [h]

theorem State.bearer_of_pool {s t : State} (h : t.pool = s.pool) (b : BearerNo) : t.bearer b = s.bearer b := by
  unfold State.bearer; rw [h]

theorem State.alertAt_of_ring {s t : State} (h : t.ring = s.ring) (p : AlertPos) : t.alertAt p = s.alertAt p := by
  unfold State.alertAt; rw [h]

theorem State.receiverLine_of_collector {s t : State} (h : t.collector = s.collector) (r : ReceiverNo) :
    t.receiverLine r = s.receiverLine r := by
  unfold State.receiverLine; rw [h]

/-! ### What each update leaves alone -/

@[simp] theorem State.modLine_keeps (s : State) (n : LineNo) (f : LineRecord → LineRecord) :
    (s.modLine n f).pending = s.pending ∧ (s.modLine n f).now = s.now ∧ (s.modLine n f).fresh = s.fresh ∧
      (s.modLine n f).straps = s.straps ∧ (s.modLine n f).periods = s.periods ∧
      (s.modLine n f).scanner = s.scanner ∧ (s.modLine n f).collector = s.collector ∧
      (s.modLine n f).pool = s.pool ∧ (s.modLine n f).ring = s.ring ∧ (s.modLine n f).power = s.power ∧
      (s.modLine n f).tones = s.tones ∧ (s.modLine n f).test = s.test ∧ (s.modLine n f).highway = s.highway ∧
      (s.modLine n f).sli = s.sli ∧ (s.modLine n f).mode = s.mode := by
  refine ⟨rfl, rfl, rfl, rfl, rfl, rfl, rfl, rfl, rfl, rfl, rfl, rfl, rfl, rfl, rfl⟩

@[simp] theorem State.modScan_keeps (s : State) (n : LineNo) (f : ScanRecord → ScanRecord) :
    (s.modScan n f).pending = s.pending ∧ (s.modScan n f).now = s.now ∧ (s.modScan n f).fresh = s.fresh ∧
      (s.modScan n f).straps = s.straps ∧ (s.modScan n f).periods = s.periods ∧
      (s.modScan n f).lines = s.lines ∧ (s.modScan n f).collector = s.collector ∧
      (s.modScan n f).pool = s.pool ∧ (s.modScan n f).ring = s.ring ∧ (s.modScan n f).power = s.power ∧
      (s.modScan n f).tones = s.tones ∧ (s.modScan n f).test = s.test ∧ (s.modScan n f).highway = s.highway ∧
      (s.modScan n f).sli = s.sli ∧ (s.modScan n f).mode = s.mode := by
  refine ⟨rfl, rfl, rfl, rfl, rfl, rfl, rfl, rfl, rfl, rfl, rfl, rfl, rfl, rfl, rfl⟩

@[simp] theorem State.modBearer_keeps (s : State) (b : BearerNo) (f : BearerRecord → BearerRecord) :
    (s.modBearer b f).pending = s.pending ∧ (s.modBearer b f).now = s.now ∧
      (s.modBearer b f).fresh = s.fresh ∧ (s.modBearer b f).straps = s.straps ∧
      (s.modBearer b f).periods = s.periods ∧ (s.modBearer b f).scanner = s.scanner ∧
      (s.modBearer b f).lines = s.lines ∧ (s.modBearer b f).collector = s.collector ∧
      (s.modBearer b f).ring = s.ring ∧ (s.modBearer b f).power = s.power ∧
      (s.modBearer b f).tones = s.tones ∧ (s.modBearer b f).test = s.test ∧
      (s.modBearer b f).highway = s.highway ∧ (s.modBearer b f).sli = s.sli ∧ (s.modBearer b f).mode = s.mode := by
  refine ⟨rfl, rfl, rfl, rfl, rfl, rfl, rfl, rfl, rfl, rfl, rfl, rfl, rfl, rfl, rfl⟩

@[simp] theorem State.setAlert_keeps (s : State) (p : AlertPos) (a : Option AlertRecord) :
    (s.setAlert p a).pending = s.pending ∧ (s.setAlert p a).now = s.now ∧
      (s.setAlert p a).fresh = s.fresh ∧ (s.setAlert p a).straps = s.straps ∧
      (s.setAlert p a).periods = s.periods ∧ (s.setAlert p a).scanner = s.scanner ∧
      (s.setAlert p a).lines = s.lines ∧ (s.setAlert p a).collector = s.collector ∧
      (s.setAlert p a).pool = s.pool ∧ (s.setAlert p a).power = s.power ∧ (s.setAlert p a).tones = s.tones ∧
      (s.setAlert p a).test = s.test ∧ (s.setAlert p a).highway = s.highway ∧ (s.setAlert p a).sli = s.sli ∧
      (s.setAlert p a).mode = s.mode := by
  refine ⟨rfl, rfl, rfl, rfl, rfl, rfl, rfl, rfl, rfl, rfl, rfl, rfl, rfl, rfl, rfl⟩

@[simp] theorem State.modAlert_keeps (s : State) (p : AlertPos) (f : AlertRecord → AlertRecord) :
    (s.modAlert p f).pending = s.pending ∧ (s.modAlert p f).now = s.now ∧
      (s.modAlert p f).fresh = s.fresh ∧ (s.modAlert p f).straps = s.straps ∧
      (s.modAlert p f).periods = s.periods ∧ (s.modAlert p f).scanner = s.scanner ∧
      (s.modAlert p f).lines = s.lines ∧ (s.modAlert p f).collector = s.collector ∧
      (s.modAlert p f).pool = s.pool ∧ (s.modAlert p f).power = s.power ∧ (s.modAlert p f).tones = s.tones ∧
      (s.modAlert p f).test = s.test ∧ (s.modAlert p f).highway = s.highway ∧ (s.modAlert p f).sli = s.sli ∧
      (s.modAlert p f).mode = s.mode := by
  refine ⟨rfl, rfl, rfl, rfl, rfl, rfl, rfl, rfl, rfl, rfl, rfl, rfl, rfl, rfl, rfl⟩

@[simp] theorem State.setReceiver_keeps (s : State) (r : ReceiverNo) (n : Option LineNo) :
    (s.setReceiver r n).pending = s.pending ∧ (s.setReceiver r n).now = s.now ∧
      (s.setReceiver r n).fresh = s.fresh ∧ (s.setReceiver r n).straps = s.straps ∧
      (s.setReceiver r n).periods = s.periods ∧ (s.setReceiver r n).scanner = s.scanner ∧
      (s.setReceiver r n).lines = s.lines ∧ (s.setReceiver r n).pool = s.pool ∧
      (s.setReceiver r n).ring = s.ring ∧ (s.setReceiver r n).power = s.power ∧
      (s.setReceiver r n).tones = s.tones ∧ (s.setReceiver r n).test = s.test ∧
      (s.setReceiver r n).highway = s.highway ∧ (s.setReceiver r n).sli = s.sli ∧
      (s.setReceiver r n).mode = s.mode := by
  refine ⟨rfl, rfl, rfl, rfl, rfl, rfl, rfl, rfl, rfl, rfl, rfl, rfl, rfl, rfl, rfl⟩

@[simp] theorem State.addLineEvent_keeps (s : State) (n : LineNo) (k : LineEvent) :
    (s.addLineEvent n k).pending = s.pending ∧ (s.addLineEvent n k).now = s.now ∧
      (s.addLineEvent n k).fresh = s.fresh ∧ (s.addLineEvent n k).straps = s.straps ∧
      (s.addLineEvent n k).periods = s.periods ∧ (s.addLineEvent n k).scanner = s.scanner ∧
      (s.addLineEvent n k).collector = s.collector ∧ (s.addLineEvent n k).pool = s.pool ∧
      (s.addLineEvent n k).ring = s.ring ∧ (s.addLineEvent n k).power = s.power ∧
      (s.addLineEvent n k).tones = s.tones ∧ (s.addLineEvent n k).test = s.test ∧
      (s.addLineEvent n k).highway = s.highway ∧ (s.addLineEvent n k).sli = s.sli ∧
      (s.addLineEvent n k).mode = s.mode := by
  refine ⟨rfl, rfl, rfl, rfl, rfl, rfl, rfl, rfl, rfl, rfl, rfl, rfl, rfl, rfl, rfl⟩

@[simp] theorem State.addBearerEvent_keeps (s : State) (b : BearerNo) (k : BearerEvent) :
    (s.addBearerEvent b k).pending = s.pending ∧ (s.addBearerEvent b k).now = s.now ∧
      (s.addBearerEvent b k).fresh = s.fresh ∧ (s.addBearerEvent b k).straps = s.straps ∧
      (s.addBearerEvent b k).periods = s.periods ∧ (s.addBearerEvent b k).scanner = s.scanner ∧
      (s.addBearerEvent b k).lines = s.lines ∧ (s.addBearerEvent b k).collector = s.collector ∧
      (s.addBearerEvent b k).ring = s.ring ∧ (s.addBearerEvent b k).power = s.power ∧
      (s.addBearerEvent b k).tones = s.tones ∧ (s.addBearerEvent b k).test = s.test ∧
      (s.addBearerEvent b k).highway = s.highway ∧ (s.addBearerEvent b k).sli = s.sli ∧
      (s.addBearerEvent b k).mode = s.mode := by
  refine ⟨rfl, rfl, rfl, rfl, rfl, rfl, rfl, rfl, rfl, rfl, rfl, rfl, rfl, rfl, rfl⟩

@[simp] theorem State.addPartEvent_keeps (s : State) (k : PartEvent) :
    (s.addPartEvent k).pending = s.pending ∧ (s.addPartEvent k).now = s.now ∧
      (s.addPartEvent k).fresh = s.fresh ∧ (s.addPartEvent k).straps = s.straps ∧
      (s.addPartEvent k).periods = s.periods ∧ (s.addPartEvent k).scanner = s.scanner ∧
      (s.addPartEvent k).lines = s.lines ∧ (s.addPartEvent k).collector = s.collector ∧
      (s.addPartEvent k).pool = s.pool ∧ (s.addPartEvent k).ring = s.ring ∧
      (s.addPartEvent k).power = s.power ∧ (s.addPartEvent k).tones = s.tones ∧
      (s.addPartEvent k).test = s.test ∧ (s.addPartEvent k).highway = s.highway ∧
      (s.addPartEvent k).mode = s.mode := by
  refine ⟨rfl, rfl, rfl, rfl, rfl, rfl, rfl, rfl, rfl, rfl, rfl, rfl, rfl, rfl, rfl⟩

@[simp] theorem State.startTimer_keeps (s : State) (n : LineNo) (k : TimerKind) (ms : Nat) :
    (s.startTimer n k ms).pending = s.pending ∧ (s.startTimer n k ms).now = s.now ∧
      (s.startTimer n k ms).fresh = s.fresh ∧ (s.startTimer n k ms).straps = s.straps ∧
      (s.startTimer n k ms).periods = s.periods ∧ (s.startTimer n k ms).scanner = s.scanner ∧
      (s.startTimer n k ms).collector = s.collector ∧ (s.startTimer n k ms).pool = s.pool ∧
      (s.startTimer n k ms).ring = s.ring ∧ (s.startTimer n k ms).power = s.power ∧
      (s.startTimer n k ms).tones = s.tones ∧ (s.startTimer n k ms).test = s.test ∧
      (s.startTimer n k ms).highway = s.highway ∧ (s.startTimer n k ms).sli = s.sli ∧
      (s.startTimer n k ms).mode = s.mode := by
  refine ⟨rfl, rfl, rfl, rfl, rfl, rfl, rfl, rfl, rfl, rfl, rfl, rfl, rfl, rfl, rfl⟩

@[simp] theorem State.stopTimer_keeps (s : State) (n : LineNo) :
    (s.stopTimer n).pending = s.pending ∧ (s.stopTimer n).now = s.now ∧ (s.stopTimer n).fresh = s.fresh ∧
      (s.stopTimer n).straps = s.straps ∧ (s.stopTimer n).periods = s.periods ∧
      (s.stopTimer n).scanner = s.scanner ∧ (s.stopTimer n).collector = s.collector ∧
      (s.stopTimer n).pool = s.pool ∧ (s.stopTimer n).ring = s.ring ∧ (s.stopTimer n).power = s.power ∧
      (s.stopTimer n).tones = s.tones ∧ (s.stopTimer n).test = s.test ∧ (s.stopTimer n).highway = s.highway ∧
      (s.stopTimer n).sli = s.sli ∧ (s.stopTimer n).mode = s.mode := by
  refine ⟨rfl, rfl, rfl, rfl, rfl, rfl, rfl, rfl, rfl, rfl, rfl, rfl, rfl, rfl, rfl⟩

@[simp] theorem State.dropTrain_keeps (s : State) (n : LineNo) :
    (s.dropTrain n).pending = s.pending ∧ (s.dropTrain n).now = s.now ∧ (s.dropTrain n).fresh = s.fresh ∧
      (s.dropTrain n).straps = s.straps ∧ (s.dropTrain n).periods = s.periods ∧
      (s.dropTrain n).lines = s.lines ∧ (s.dropTrain n).collector = s.collector ∧
      (s.dropTrain n).pool = s.pool ∧ (s.dropTrain n).ring = s.ring ∧ (s.dropTrain n).power = s.power ∧
      (s.dropTrain n).tones = s.tones ∧ (s.dropTrain n).test = s.test ∧ (s.dropTrain n).highway = s.highway ∧
      (s.dropTrain n).sli = s.sli ∧ (s.dropTrain n).mode = s.mode := by
  refine ⟨rfl, rfl, rfl, rfl, rfl, rfl, rfl, rfl, rfl, rfl, rfl, rfl, rfl, rfl, rfl⟩

@[simp] theorem State.setLoop_keeps (s : State) (n : LineNo) (h : Hook) :
    (s.setLoop n h).pending = s.pending ∧ (s.setLoop n h).now = s.now ∧ (s.setLoop n h).fresh = s.fresh ∧
      (s.setLoop n h).straps = s.straps ∧ (s.setLoop n h).periods = s.periods ∧
      (s.setLoop n h).lines = s.lines ∧ (s.setLoop n h).collector = s.collector ∧
      (s.setLoop n h).pool = s.pool ∧ (s.setLoop n h).ring = s.ring ∧ (s.setLoop n h).power = s.power ∧
      (s.setLoop n h).tones = s.tones ∧ (s.setLoop n h).test = s.test ∧ (s.setLoop n h).highway = s.highway ∧
      (s.setLoop n h).sli = s.sli ∧ (s.setLoop n h).mode = s.mode := by
  refine ⟨rfl, rfl, rfl, rfl, rfl, rfl, rfl, rfl, rfl, rfl, rfl, rfl, rfl, rfl, rfl⟩

@[simp] theorem State.hand_keeps (s : State) (h : Handed) :
    (s.hand h).pending = s.pending ∧ (s.hand h).now = s.now ∧ (s.hand h).fresh = s.fresh ∧
      (s.hand h).straps = s.straps ∧ (s.hand h).periods = s.periods ∧ (s.hand h).lines = s.lines ∧
      (s.hand h).collector = s.collector ∧ (s.hand h).pool = s.pool ∧ (s.hand h).ring = s.ring ∧
      (s.hand h).power = s.power ∧ (s.hand h).tones = s.tones ∧ (s.hand h).test = s.test ∧
      (s.hand h).highway = s.highway ∧ (s.hand h).sli = s.sli ∧ (s.hand h).mode = s.mode := by
  refine ⟨rfl, rfl, rfl, rfl, rfl, rfl, rfl, rfl, rfl, rfl, rfl, rfl, rfl, rfl, rfl⟩

@[simp] theorem State.unhand_keeps (s : State) (h : Handed) :
    (s.unhand h).pending = s.pending ∧ (s.unhand h).now = s.now ∧ (s.unhand h).fresh = s.fresh ∧
      (s.unhand h).straps = s.straps ∧ (s.unhand h).periods = s.periods ∧ (s.unhand h).lines = s.lines ∧
      (s.unhand h).collector = s.collector ∧ (s.unhand h).pool = s.pool ∧ (s.unhand h).ring = s.ring ∧
      (s.unhand h).power = s.power ∧ (s.unhand h).tones = s.tones ∧ (s.unhand h).test = s.test ∧
      (s.unhand h).highway = s.highway ∧ (s.unhand h).sli = s.sli ∧ (s.unhand h).mode = s.mode := by
  refine ⟨rfl, rfl, rfl, rfl, rfl, rfl, rfl, rfl, rfl, rfl, rfl, rfl, rfl, rfl, rfl⟩

/-! ### The parts of a block that an update leaves alone -/

@[simp] theorem State.setLoop_scanner (s : State) (n : LineNo) (h : Hook) :
    (s.setLoop n h).scanner = { s.scanner with loops := s.scanner.loops.set n.1 h n.2 } := rfl

@[simp] theorem State.hand_scanner (s : State) (h : Handed) :
    (s.hand h).scanner = { s.scanner with handed := s.scanner.handed ++ [h] } := rfl

@[simp] theorem State.unhand_scanner (s : State) (h : Handed) :
    (s.unhand h).scanner = { s.scanner with handed := s.scanner.handed.erase h } := rfl

@[simp] theorem State.scan_setLoop (s : State) (n m : LineNo) (h : Hook) : (s.setLoop n h).scan m = s.scan m := rfl

@[simp] theorem State.scan_hand (s : State) (h : Handed) (m : LineNo) : (s.hand h).scan m = s.scan m := rfl

@[simp] theorem State.scan_unhand (s : State) (h : Handed) (m : LineNo) : (s.unhand h).scan m = s.scan m := rfl

@[simp] theorem State.line_setLoop (s : State) (n m : LineNo) (h : Hook) : (s.setLoop n h).line m = s.line m := rfl

@[simp] theorem State.line_hand (s : State) (h : Handed) (m : LineNo) : (s.hand h).line m = s.line m := rfl

@[simp] theorem State.line_unhand (s : State) (h : Handed) (m : LineNo) : (s.unhand h).line m = s.line m := rfl

@[simp] theorem State.loop_setLoop (s : State) (n m : LineNo) (h : Hook) :
    (s.setLoop n h).loop m = if m = n then h else s.loop m := by
  unfold State.loop State.setLoop
  by_cases e : m = n
  · subst e; simp
  · have : n.1 ≠ m.1 := fun x => e (Fin.ext x.symm)
    simp [e, Vector.getElem_set_ne, this]

@[simp] theorem State.loop_modScan (s : State) (n m : LineNo) (f : ScanRecord → ScanRecord) :
    (s.modScan n f).loop m = s.loop m := rfl

@[simp] theorem State.modScan_scanner (s : State) (n : LineNo) (f : ScanRecord → ScanRecord) :
    (s.modScan n f).scanner.energizeList = s.scanner.energizeList
      ∧ (s.modScan n f).scanner.groupTimer = s.scanner.groupTimer
      ∧ (s.modScan n f).scanner.lastSample = s.scanner.lastSample
      ∧ (s.modScan n f).scanner.unsampled = s.scanner.unsampled ∧ (s.modScan n f).scanner.loops = s.scanner.loops
      ∧ (s.modScan n f).scanner.handed = s.scanner.handed :=
  ⟨rfl, rfl, rfl, rfl, rfl, rfl⟩

@[simp] theorem State.modBearer_pool (s : State) (b : BearerNo) (f : BearerRecord → BearerRecord) :
    (s.modBearer b f).pool.freeList = s.pool.freeList ∧ (s.modBearer b f).pool.queue = s.pool.queue :=
  ⟨rfl, rfl⟩

@[simp] theorem State.addBearerEvent_pool (s : State) (b : BearerNo) (k : BearerEvent) :
    (s.addBearerEvent b k).pool.freeList = s.pool.freeList ∧ (s.addBearerEvent b k).pool.queue = s.pool.queue :=
  ⟨rfl, rfl⟩

@[simp] theorem State.setAlert_ring (s : State) (p : AlertPos) (a : Option AlertRecord) :
    (s.setAlert p a).ring.accepted = s.ring.accepted ∧ (s.setAlert p a).ring.placed = s.ring.placed
      ∧ (s.setAlert p a).ring.clock = s.ring.clock ∧ (s.setAlert p a).ring.windowTaken = s.ring.windowTaken
      ∧ (s.setAlert p a).ring.capacity = s.ring.capacity :=
  ⟨rfl, rfl, rfl, rfl, rfl⟩

@[simp] theorem State.modAlert_ring (s : State) (p : AlertPos) (f : AlertRecord → AlertRecord) :
    (s.modAlert p f).ring.accepted = s.ring.accepted ∧ (s.modAlert p f).ring.placed = s.ring.placed
      ∧ (s.modAlert p f).ring.clock = s.ring.clock ∧ (s.modAlert p f).ring.windowTaken = s.ring.windowTaken
      ∧ (s.modAlert p f).ring.capacity = s.ring.capacity :=
  ⟨rfl, rfl, rfl, rfl, rfl⟩

@[simp] theorem State.setReceiver_collector (s : State) (r : ReceiverNo) (n : Option LineNo) :
    (s.setReceiver r n).collector.waitList = s.collector.waitList
      ∧ (s.setReceiver r n).collector.plan = s.collector.plan :=
  ⟨rfl, rfl⟩

@[simp] theorem State.addPartEvent_sli (s : State) (k : PartEvent) :
    (s.addPartEvent k).sli.hunter = s.sli.hunter ∧ (s.addPartEvent k).sli.lastOctet = s.sli.lastOctet
      ∧ (s.addPartEvent k).sli.replies = s.sli.replies ∧ (s.addPartEvent k).sli.sending = s.sli.sending
      ∧ (s.addPartEvent k).sli.reportPosition = s.sli.reportPosition
      ∧ (s.addPartEvent k).sli.overrun = s.sli.overrun
      ∧ (s.addPartEvent k).sli.controller = s.sli.controller
      ∧ (s.addPartEvent k).sli.supervision = s.sli.supervision :=
  ⟨rfl, rfl, rfl, rfl, rfl, rfl, rfl, rfl⟩

/-! ### Records read past an update of another block -/

@[simp] theorem State.line_other (s : State) (m : LineNo) :
    (∀ n f, (s.modScan n f).line m = s.line m) ∧ (∀ b f, (s.modBearer b f).line m = s.line m)
      ∧ (∀ p a, (s.setAlert p a).line m = s.line m) ∧ (∀ p f, (s.modAlert p f).line m = s.line m)
      ∧ (∀ r n, (s.setReceiver r n).line m = s.line m) ∧ (∀ b k, (s.addBearerEvent b k).line m = s.line m)
      ∧ (∀ k, (s.addPartEvent k).line m = s.line m) ∧ (∀ n, (s.dropTrain n).line m = s.line m) :=
  ⟨fun _ _ => rfl, fun _ _ => rfl, fun _ _ => rfl, fun _ _ => rfl, fun _ _ => rfl, fun _ _ => rfl, fun _ => rfl,
   fun _ => rfl⟩

@[simp] theorem State.scan_other (s : State) (m : LineNo) :
    (∀ n f, (s.modLine n f).scan m = s.scan m) ∧ (∀ b f, (s.modBearer b f).scan m = s.scan m)
      ∧ (∀ p a, (s.setAlert p a).scan m = s.scan m) ∧ (∀ n k, (s.addLineEvent n k).scan m = s.scan m)
      ∧ (∀ r n, (s.setReceiver r n).scan m = s.scan m) ∧ (∀ b k, (s.addBearerEvent b k).scan m = s.scan m)
      ∧ (∀ k, (s.addPartEvent k).scan m = s.scan m) ∧ (∀ n k ms, (s.startTimer n k ms).scan m = s.scan m)
      ∧ (∀ n, (s.stopTimer n).scan m = s.scan m) :=
  ⟨fun _ _ => rfl, fun _ _ => rfl, fun _ _ => rfl, fun _ _ => rfl, fun _ _ => rfl, fun _ _ => rfl, fun _ => rfl,
   fun _ _ _ => rfl, fun _ => rfl⟩

@[simp] theorem State.bearer_other (s : State) (b : BearerNo) :
    (∀ n f, (s.modLine n f).bearer b = s.bearer b) ∧ (∀ n f, (s.modScan n f).bearer b = s.bearer b)
      ∧ (∀ p a, (s.setAlert p a).bearer b = s.bearer b) ∧ (∀ p f, (s.modAlert p f).bearer b = s.bearer b)
      ∧ (∀ r n, (s.setReceiver r n).bearer b = s.bearer b) ∧ (∀ n k, (s.addLineEvent n k).bearer b = s.bearer b)
      ∧ (∀ k, (s.addPartEvent k).bearer b = s.bearer b) :=
  ⟨fun _ _ => rfl, fun _ _ => rfl, fun _ _ => rfl, fun _ _ => rfl, fun _ _ => rfl, fun _ _ => rfl, fun _ => rfl⟩

@[simp] theorem State.alertAt_other (s : State) (p : AlertPos) :
    (∀ n f, (s.modLine n f).alertAt p = s.alertAt p) ∧ (∀ n f, (s.modScan n f).alertAt p = s.alertAt p)
      ∧ (∀ b f, (s.modBearer b f).alertAt p = s.alertAt p) ∧ (∀ r n, (s.setReceiver r n).alertAt p = s.alertAt p)
      ∧ (∀ n k, (s.addLineEvent n k).alertAt p = s.alertAt p)
      ∧ (∀ b k, (s.addBearerEvent b k).alertAt p = s.alertAt p) ∧ (∀ k, (s.addPartEvent k).alertAt p = s.alertAt p) :=
  ⟨fun _ _ => rfl, fun _ _ => rfl, fun _ _ => rfl, fun _ _ => rfl, fun _ _ => rfl, fun _ _ => rfl, fun _ => rfl⟩

/-! ### Writing twice, writing back -/

/-- Two changes of one line record are one change. -/
theorem State.modLine_modLine (s : State) (n : LineNo) (f g : LineRecord → LineRecord) :
    (s.modLine n f).modLine n g = s.modLine n fun r => g (f r) := by
  have h : (s.modLine n f).line n = f (s.line n) := by simp
  show { s.modLine n f with lines := (s.modLine n f).lines.set n.1 (g ((s.modLine n f).line n)) n.2 } = _
  rw [h]
  simp [State.modLine]

/-- Two changes of one scanner record are one change. -/
theorem State.modScan_modScan (s : State) (n : LineNo) (f g : ScanRecord → ScanRecord) :
    (s.modScan n f).modScan n g = s.modScan n fun r => g (f r) := by
  have h : (s.modScan n f).scan n = f (s.scan n) := by simp
  show { s.modScan n f with scanner := { (s.modScan n f).scanner with
    records := (s.modScan n f).scanner.records.set n.1 (g ((s.modScan n f).scan n)) n.2 } } = _
  rw [h]
  simp [State.modScan]

/-- Two changes of one bearer record are one change. -/
theorem State.modBearer_modBearer (s : State) (b : BearerNo) (f g : BearerRecord → BearerRecord) :
    (s.modBearer b f).modBearer b g = s.modBearer b fun r => g (f r) := by
  have h : (s.modBearer b f).bearer b = f (s.bearer b) := by simp
  show { s.modBearer b f with pool := { (s.modBearer b f).pool with
    bearers := (s.modBearer b f).pool.bearers.set b.1 (g ((s.modBearer b f).bearer b)) b.2 } } = _
  rw [h]
  simp [State.modBearer]

/-- The later of two writes of one alert position stands. -/
theorem State.setAlert_setAlert (s : State) (p : AlertPos) (a b : Option AlertRecord) :
    (s.setAlert p a).setAlert p b = s.setAlert p b := by
  simp [State.setAlert]

/-- A change that leaves the record as it is leaves the state as it is. -/
theorem State.modLine_self (s : State) (n : LineNo) (f : LineRecord → LineRecord) (h : f (s.line n) = s.line n) :
    s.modLine n f = s := by
  unfold State.modLine
  rw [h]
  simp [State.line]

/-- Only what a change makes of the present record counts. -/
theorem State.modLine_congr (s : State) (n : LineNo) (f g : LineRecord → LineRecord) (h : f (s.line n) = g (s.line n)) :
    s.modLine n f = s.modLine n g := by
  unfold State.modLine
  rw [h]

/-- R39: a tone field written is the line's tone changed and the sources as the change leaves them. -/
theorem State.setTone_eq (s : State) (n : LineNo) (t : Option ToneKind) :
    s.setTone n t = { s.modLine n (fun r => { r with tone := t }) with tones := (s.setTone n t).tones } := by
  by_cases h : (s.line n).tone = t
  · have hs : s.setTone n t = s := by unfold State.setTone; simp [h]
    rw [hs, State.modLine_self _ _ _ (by rw [← h])]
  · have hl (u : State) (k : ToneKind) : u.leaveSource k = { u with tones := (u.leaveSource k).tones } := by
      unfold State.leaveSource
      split <;> rfl
    have hj (u : State) (k : ToneKind) : u.joinSource k = { u with tones := (u.joinSource k).tones } := by
      unfold State.joinSource
      split <;> rfl
    unfold State.setTone
    simp only [h, if_false]
    cases (s.line n).tone <;> cases t <;> dsimp only
    · rw [hj]
    · rw [hl]
    · rw [hj, hl]

/-- Whether a source has a listener depends on the tone fields alone. -/
theorem State.hasListener_congr {s u : State} (h : ∀ m, (u.line m).tone = (s.line m).tone) (k : ToneKind) :
    u.hasListener k = s.hasListener k := by
  unfold State.hasListener
  simp only [h]

/-- What a change of tone does to the sources depends on the tone fields, the sources and the time alone. -/
theorem State.setTone_tones_congr {s u : State} (h : ∀ m, (u.line m).tone = (s.line m).tone) (ht : u.tones = s.tones)
    (hn : u.now = s.now) (n : LineNo) (t : Option ToneKind) : (u.setTone n t).tones = (s.setTone n t).tones := by
  have hl (k : ToneKind) : ((u.modLine n fun r => { r with tone := t }).leaveSource k).tones =
      ((s.modLine n fun r => { r with tone := t }).leaveSource k).tones := by
    have hh : (u.modLine n fun r => { r with tone := t }).hasListener k =
        (s.modLine n fun r => { r with tone := t }).hasListener k := by
      apply State.hasListener_congr
      intro m
      simp only [State.line_modLine]
      split <;> simp [h]
    unfold State.leaveSource
    rw [hh]
    split <;> simp [ht]
  have hj (v w : State) (hv : v.tones = w.tones) (hvn : v.now = w.now) (k : ToneKind) :
      (v.joinSource k).tones = (w.joinSource k).tones := by
    unfold State.joinSource
    rw [hv, hvn]
    split <;> simp [hv]
  have hln (v : State) (k : ToneKind) : (v.leaveSource k).now = v.now := by
    unfold State.leaveSource
    split <;> rfl
  by_cases e : (s.line n).tone = t
  · have e' : (u.line n).tone = t := (h n).trans e
    unfold State.setTone
    simp [e, e', ht]
  · have e' : ¬ (u.line n).tone = t := by rw [h n]; exact e
    unfold State.setTone
    simp only [e, e', if_false]
    rw [h n]
    cases (s.line n).tone <;> cases t <;> dsimp only
    · simp [ht]
    · exact hj _ _ (by simpa using ht) (by simpa using hn) _
    · exact hl _
    · exact hj _ _ (hl _) (by rw [hln, hln]; simpa using hn) _

end Sys2Proof.Machine
end

