-- ==== Sys2Proof/Laws/Keeps.lean ====
section
/-! SUPPORT. What each shared operation leaves alone, said once: every block that the operation cannot change. -/

namespace Sys2Proof.Machine

/-- An operation repeated over a list keeps what each application keeps. -/
theorem foldl_keeps {α β : Type} (g : State → β) (f : State → α → State) (h : ∀ s a, g (f s a) = g s) :
    ∀ (l : List α) (s : State), g (l.foldl f s) = g s
  | [], _ => rfl
  | a :: l, s => by rw [List.foldl_cons, foldl_keeps g f h l (f s a), h s a]

@[simp] theorem State.leaveSource_keeps (s : State) (k : ToneKind) :
    (s.leaveSource k).pending = s.pending ∧ (s.leaveSource k).now = s.now ∧
      (s.leaveSource k).fresh = s.fresh ∧ (s.leaveSource k).straps = s.straps ∧
      (s.leaveSource k).periods = s.periods ∧ (s.leaveSource k).scanner = s.scanner ∧
      (s.leaveSource k).lines = s.lines ∧ (s.leaveSource k).collector = s.collector ∧
      (s.leaveSource k).pool = s.pool ∧ (s.leaveSource k).ring = s.ring ∧ (s.leaveSource k).power = s.power ∧
      (s.leaveSource k).test = s.test ∧ (s.leaveSource k).highway = s.highway ∧
      (s.leaveSource k).sli = s.sli ∧ (s.leaveSource k).mode = s.mode := by
  unfold State.leaveSource
  try dsimp only
  (repeat' split) <;> simp

@[simp] theorem State.joinSource_keeps (s : State) (k : ToneKind) :
    (s.joinSource k).pending = s.pending ∧ (s.joinSource k).now = s.now ∧
      (s.joinSource k).fresh = s.fresh ∧ (s.joinSource k).straps = s.straps ∧
      (s.joinSource k).periods = s.periods ∧ (s.joinSource k).scanner = s.scanner ∧
      (s.joinSource k).lines = s.lines ∧ (s.joinSource k).collector = s.collector ∧
      (s.joinSource k).pool = s.pool ∧ (s.joinSource k).ring = s.ring ∧ (s.joinSource k).power = s.power ∧
      (s.joinSource k).test = s.test ∧ (s.joinSource k).highway = s.highway ∧ (s.joinSource k).sli = s.sli ∧
      (s.joinSource k).mode = s.mode := by
  unfold State.joinSource
  try dsimp only
  (repeat' split) <;> simp

@[simp] theorem State.setTone_keeps (s : State) (n : LineNo) (t : Option ToneKind) :
    (s.setTone n t).pending = s.pending ∧ (s.setTone n t).now = s.now ∧ (s.setTone n t).fresh = s.fresh ∧
      (s.setTone n t).straps = s.straps ∧ (s.setTone n t).periods = s.periods ∧
      (s.setTone n t).scanner = s.scanner ∧ (s.setTone n t).collector = s.collector ∧
      (s.setTone n t).pool = s.pool ∧ (s.setTone n t).ring = s.ring ∧ (s.setTone n t).power = s.power ∧
      (s.setTone n t).test = s.test ∧ (s.setTone n t).highway = s.highway ∧ (s.setTone n t).sli = s.sli ∧
      (s.setTone n t).mode = s.mode := by
  unfold State.setTone
  try dsimp only
  (repeat' split) <;> simp

@[simp] theorem State.examine_keeps (s : State) :
    (s.examine).pending = s.pending ∧ (s.examine).now = s.now ∧ (s.examine).fresh = s.fresh ∧
      (s.examine).straps = s.straps ∧ (s.examine).periods = s.periods ∧ (s.examine).scanner = s.scanner ∧
      (s.examine).lines = s.lines ∧ (s.examine).collector = s.collector ∧ (s.examine).pool = s.pool ∧
      (s.examine).ring = s.ring ∧ (s.examine).tones = s.tones ∧ (s.examine).test = s.test ∧
      (s.examine).highway = s.highway ∧ (s.examine).mode = s.mode := by
  unfold State.examine
  dsimp only
  (repeat' split) <;> simp

@[simp] theorem State.joinRoll_keeps (s : State) (n : LineNo) (c : Feed) :
    (s.joinRoll n c).pending = s.pending ∧ (s.joinRoll n c).now = s.now ∧
      (s.joinRoll n c).fresh = s.fresh ∧ (s.joinRoll n c).straps = s.straps ∧
      (s.joinRoll n c).periods = s.periods ∧ (s.joinRoll n c).scanner = s.scanner ∧
      (s.joinRoll n c).collector = s.collector ∧ (s.joinRoll n c).pool = s.pool ∧
      (s.joinRoll n c).ring = s.ring ∧ (s.joinRoll n c).tones = s.tones ∧ (s.joinRoll n c).test = s.test ∧
      (s.joinRoll n c).highway = s.highway ∧ (s.joinRoll n c).sli = s.sli ∧ (s.joinRoll n c).mode = s.mode := by
  unfold State.joinRoll
  try dsimp only
  simp

@[simp] theorem State.leaveRoll_keeps (s : State) (n : LineNo) :
    (s.leaveRoll n).pending = s.pending ∧ (s.leaveRoll n).now = s.now ∧ (s.leaveRoll n).fresh = s.fresh ∧
      (s.leaveRoll n).straps = s.straps ∧ (s.leaveRoll n).periods = s.periods ∧
      (s.leaveRoll n).scanner = s.scanner ∧ (s.leaveRoll n).collector = s.collector ∧
      (s.leaveRoll n).pool = s.pool ∧ (s.leaveRoll n).ring = s.ring ∧ (s.leaveRoll n).tones = s.tones ∧
      (s.leaveRoll n).test = s.test ∧ (s.leaveRoll n).highway = s.highway ∧ (s.leaveRoll n).sli = s.sli ∧
      (s.leaveRoll n).mode = s.mode := by
  unfold State.leaveRoll
  try dsimp only
  simp

@[simp] theorem State.giveDialTone_keeps (s : State) (n : LineNo) :
    (s.giveDialTone n).pending = s.pending ∧ (s.giveDialTone n).now = s.now ∧
      (s.giveDialTone n).fresh = s.fresh ∧ (s.giveDialTone n).straps = s.straps ∧
      (s.giveDialTone n).periods = s.periods ∧ (s.giveDialTone n).scanner = s.scanner ∧
      (s.giveDialTone n).collector = s.collector ∧ (s.giveDialTone n).pool = s.pool ∧
      (s.giveDialTone n).ring = s.ring ∧ (s.giveDialTone n).power = s.power ∧
      (s.giveDialTone n).test = s.test ∧ (s.giveDialTone n).highway = s.highway ∧
      (s.giveDialTone n).sli = s.sli ∧ (s.giveDialTone n).mode = s.mode := by
  unfold State.giveDialTone
  try dsimp only
  simp

@[simp] theorem State.attachReceiver_keeps (s : State) (r : ReceiverNo) (n : LineNo) :
    (s.attachReceiver r n).pending = s.pending ∧ (s.attachReceiver r n).now = s.now ∧
      (s.attachReceiver r n).fresh = s.fresh ∧ (s.attachReceiver r n).straps = s.straps ∧
      (s.attachReceiver r n).periods = s.periods ∧ (s.attachReceiver r n).scanner = s.scanner ∧
      (s.attachReceiver r n).pool = s.pool ∧ (s.attachReceiver r n).ring = s.ring ∧
      (s.attachReceiver r n).power = s.power ∧ (s.attachReceiver r n).tones = s.tones ∧
      (s.attachReceiver r n).test = s.test ∧ (s.attachReceiver r n).highway = s.highway ∧
      (s.attachReceiver r n).sli = s.sli ∧ (s.attachReceiver r n).mode = s.mode := by
  unfold State.attachReceiver
  try dsimp only
  simp

@[simp] theorem State.enterDial_keeps (s : State) (n : LineNo) :
    (s.enterDial n).pending = s.pending ∧ (s.enterDial n).now = s.now ∧ (s.enterDial n).fresh = s.fresh ∧
      (s.enterDial n).straps = s.straps ∧ (s.enterDial n).periods = s.periods ∧
      (s.enterDial n).scanner = s.scanner ∧ (s.enterDial n).pool = s.pool ∧ (s.enterDial n).ring = s.ring ∧
      (s.enterDial n).power = s.power ∧ (s.enterDial n).test = s.test ∧ (s.enterDial n).highway = s.highway ∧
      (s.enterDial n).sli = s.sli ∧ (s.enterDial n).mode = s.mode := by
  unfold State.enterDial
  try dsimp only
  (repeat' split) <;> simp

@[simp] theorem State.admitLine_keeps (s : State) (n : LineNo) (c : Feed) :
    (s.admitLine n c).pending = s.pending ∧ (s.admitLine n c).now = s.now ∧
      (s.admitLine n c).fresh = s.fresh ∧ (s.admitLine n c).straps = s.straps ∧
      (s.admitLine n c).periods = s.periods ∧ (s.admitLine n c).scanner = s.scanner ∧
      (s.admitLine n c).pool = s.pool ∧ (s.admitLine n c).ring = s.ring ∧ (s.admitLine n c).test = s.test ∧
      (s.admitLine n c).highway = s.highway ∧ (s.admitLine n c).sli = s.sli ∧ (s.admitLine n c).mode = s.mode := by
  unfold State.admitLine
  try dsimp only
  simp

@[simp] theorem State.handOnReceiver_keeps (s : State) (r : ReceiverNo) :
    (s.handOnReceiver r).pending = s.pending ∧ (s.handOnReceiver r).now = s.now ∧
      (s.handOnReceiver r).fresh = s.fresh ∧ (s.handOnReceiver r).straps = s.straps ∧
      (s.handOnReceiver r).periods = s.periods ∧ (s.handOnReceiver r).scanner = s.scanner ∧
      (s.handOnReceiver r).pool = s.pool ∧ (s.handOnReceiver r).ring = s.ring ∧
      (s.handOnReceiver r).power = s.power ∧ (s.handOnReceiver r).test = s.test ∧
      (s.handOnReceiver r).highway = s.highway ∧ (s.handOnReceiver r).sli = s.sli ∧
      (s.handOnReceiver r).mode = s.mode := by
  unfold State.handOnReceiver
  split
  · simp
  · dsimp only
    split <;> simp

@[simp] theorem State.leaveDial_keeps (s : State) (n : LineNo) :
    (s.leaveDial n).pending = s.pending ∧ (s.leaveDial n).now = s.now ∧ (s.leaveDial n).fresh = s.fresh ∧
      (s.leaveDial n).straps = s.straps ∧ (s.leaveDial n).periods = s.periods ∧
      (s.leaveDial n).pool = s.pool ∧ (s.leaveDial n).ring = s.ring ∧ (s.leaveDial n).power = s.power ∧
      (s.leaveDial n).test = s.test ∧ (s.leaveDial n).highway = s.highway ∧ (s.leaveDial n).sli = s.sli ∧
      (s.leaveDial n).mode = s.mode := by
  unfold State.leaveDial
  dsimp only
  split <;> simp

@[simp] theorem State.toIdle_keeps (s : State) (n : LineNo) :
    (s.toIdle n).pending = s.pending ∧ (s.toIdle n).now = s.now ∧ (s.toIdle n).fresh = s.fresh ∧
      (s.toIdle n).straps = s.straps ∧ (s.toIdle n).periods = s.periods ∧ (s.toIdle n).scanner = s.scanner ∧
      (s.toIdle n).collector = s.collector ∧ (s.toIdle n).pool = s.pool ∧ (s.toIdle n).ring = s.ring ∧
      (s.toIdle n).test = s.test ∧ (s.toIdle n).highway = s.highway ∧ (s.toIdle n).sli = s.sli ∧
      (s.toIdle n).mode = s.mode := by
  unfold State.toIdle
  try dsimp only
  simp

@[simp] theorem State.toClearing_keeps (s : State) (n : LineNo) (t : Option ToneKind) (k : LineEvent) :
    (s.toClearing n t k).pending = s.pending ∧ (s.toClearing n t k).now = s.now ∧
      (s.toClearing n t k).fresh = s.fresh ∧ (s.toClearing n t k).straps = s.straps ∧
      (s.toClearing n t k).periods = s.periods ∧ (s.toClearing n t k).scanner = s.scanner ∧
      (s.toClearing n t k).collector = s.collector ∧ (s.toClearing n t k).pool = s.pool ∧
      (s.toClearing n t k).ring = s.ring ∧ (s.toClearing n t k).power = s.power ∧
      (s.toClearing n t k).test = s.test ∧ (s.toClearing n t k).highway = s.highway ∧
      (s.toClearing n t k).sli = s.sli ∧ (s.toClearing n t k).mode = s.mode := by
  unfold State.toClearing
  try dsimp only
  simp

@[simp] theorem State.toLockout_keeps (s : State) (n : LineNo) :
    (s.toLockout n).pending = s.pending ∧ (s.toLockout n).now = s.now ∧ (s.toLockout n).fresh = s.fresh ∧
      (s.toLockout n).straps = s.straps ∧ (s.toLockout n).periods = s.periods ∧
      (s.toLockout n).scanner = s.scanner ∧ (s.toLockout n).collector = s.collector ∧
      (s.toLockout n).pool = s.pool ∧ (s.toLockout n).ring = s.ring ∧ (s.toLockout n).test = s.test ∧
      (s.toLockout n).highway = s.highway ∧ (s.toLockout n).sli = s.sli ∧ (s.toLockout n).mode = s.mode := by
  unfold State.toLockout
  try dsimp only
  simp

@[simp] theorem State.place_keeps (s : State) (pos : AlertPos) (p : PhaseNo) :
    (s.place pos p).pending = s.pending ∧ (s.place pos p).now = s.now ∧ (s.place pos p).fresh = s.fresh ∧
      (s.place pos p).straps = s.straps ∧ (s.place pos p).periods = s.periods ∧
      (s.place pos p).scanner = s.scanner ∧ (s.place pos p).lines = s.lines ∧
      (s.place pos p).collector = s.collector ∧ (s.place pos p).pool = s.pool ∧
      (s.place pos p).power = s.power ∧ (s.place pos p).tones = s.tones ∧ (s.place pos p).test = s.test ∧
      (s.place pos p).highway = s.highway ∧ (s.place pos p).sli = s.sli ∧ (s.place pos p).mode = s.mode := by
  unfold State.place
  try dsimp only
  (repeat' split) <;> simp

@[simp] theorem State.placeAlong_keeps (s : State) (l : List AlertPos) :
    (s.placeAlong l).pending = s.pending ∧ (s.placeAlong l).now = s.now ∧
      (s.placeAlong l).fresh = s.fresh ∧ (s.placeAlong l).straps = s.straps ∧
      (s.placeAlong l).periods = s.periods ∧ (s.placeAlong l).scanner = s.scanner ∧
      (s.placeAlong l).lines = s.lines ∧ (s.placeAlong l).collector = s.collector ∧
      (s.placeAlong l).pool = s.pool ∧ (s.placeAlong l).power = s.power ∧ (s.placeAlong l).tones = s.tones ∧
      (s.placeAlong l).test = s.test ∧ (s.placeAlong l).highway = s.highway ∧ (s.placeAlong l).sli = s.sli ∧
      (s.placeAlong l).mode = s.mode := by
  induction l generalizing s with
  | nil => simp [State.placeAlong]
  | cons _ _ ih =>
    unfold State.placeAlong
    (repeat' split) <;> simp [ih]

@[simp] theorem State.tryPlacement_keeps (s : State) :
    (s.tryPlacement).pending = s.pending ∧ (s.tryPlacement).now = s.now ∧
      (s.tryPlacement).fresh = s.fresh ∧ (s.tryPlacement).straps = s.straps ∧
      (s.tryPlacement).periods = s.periods ∧ (s.tryPlacement).scanner = s.scanner ∧
      (s.tryPlacement).lines = s.lines ∧ (s.tryPlacement).collector = s.collector ∧
      (s.tryPlacement).pool = s.pool ∧ (s.tryPlacement).power = s.power ∧ (s.tryPlacement).tones = s.tones ∧
      (s.tryPlacement).test = s.test ∧ (s.tryPlacement).highway = s.highway ∧ (s.tryPlacement).sli = s.sli ∧
      (s.tryPlacement).mode = s.mode := by
  unfold State.tryPlacement
  try dsimp only
  simp

@[simp] theorem State.unplace_keeps (s : State) (pos : AlertPos) :
    (s.unplace pos).pending = s.pending ∧ (s.unplace pos).now = s.now ∧ (s.unplace pos).fresh = s.fresh ∧
      (s.unplace pos).straps = s.straps ∧ (s.unplace pos).periods = s.periods ∧
      (s.unplace pos).scanner = s.scanner ∧ (s.unplace pos).lines = s.lines ∧
      (s.unplace pos).collector = s.collector ∧ (s.unplace pos).pool = s.pool ∧
      (s.unplace pos).power = s.power ∧ (s.unplace pos).tones = s.tones ∧ (s.unplace pos).test = s.test ∧
      (s.unplace pos).highway = s.highway ∧ (s.unplace pos).sli = s.sli ∧ (s.unplace pos).mode = s.mode := by
  unfold State.unplace
  try dsimp only
  simp

@[simp] theorem State.fitPhase_keeps (s : State) (p : PhaseNo) (l : List AlertPos) :
    (s.fitPhase p l).pending = s.pending ∧ (s.fitPhase p l).now = s.now ∧
      (s.fitPhase p l).fresh = s.fresh ∧ (s.fitPhase p l).straps = s.straps ∧
      (s.fitPhase p l).periods = s.periods ∧ (s.fitPhase p l).scanner = s.scanner ∧
      (s.fitPhase p l).lines = s.lines ∧ (s.fitPhase p l).collector = s.collector ∧
      (s.fitPhase p l).pool = s.pool ∧ (s.fitPhase p l).power = s.power ∧ (s.fitPhase p l).tones = s.tones ∧
      (s.fitPhase p l).test = s.test ∧ (s.fitPhase p l).highway = s.highway ∧ (s.fitPhase p l).sli = s.sli ∧
      (s.fitPhase p l).mode = s.mode := by
  induction l generalizing s with
  | nil => simp [State.fitPhase]
  | cons _ _ ih =>
    unfold State.fitPhase
    (repeat' split) <;> simp [ih]

@[simp] theorem State.fitPhases_keeps (s : State) :
    (s.fitPhases).pending = s.pending ∧ (s.fitPhases).now = s.now ∧ (s.fitPhases).fresh = s.fresh ∧
      (s.fitPhases).straps = s.straps ∧ (s.fitPhases).periods = s.periods ∧
      (s.fitPhases).scanner = s.scanner ∧ (s.fitPhases).lines = s.lines ∧
      (s.fitPhases).collector = s.collector ∧ (s.fitPhases).pool = s.pool ∧ (s.fitPhases).power = s.power ∧
      (s.fitPhases).tones = s.tones ∧ (s.fitPhases).test = s.test ∧ (s.fitPhases).highway = s.highway ∧
      (s.fitPhases).sli = s.sli ∧ (s.fitPhases).mode = s.mode := by
  unfold State.fitPhases
  refine ⟨?_, ?_, ?_, ?_, ?_, ?_, ?_, ?_, ?_, ?_, ?_, ?_, ?_, ?_, ?_⟩ <;>
    exact (foldl_keeps _ _ (fun _ _ => by simp) _ _).trans (by simp)

@[simp] theorem State.returnMember_keeps (s : State) (n : LineNo) :
    (s.returnMember n).pending = s.pending ∧ (s.returnMember n).now = s.now ∧
      (s.returnMember n).fresh = s.fresh ∧ (s.returnMember n).straps = s.straps ∧
      (s.returnMember n).periods = s.periods ∧ (s.returnMember n).scanner = s.scanner ∧
      (s.returnMember n).collector = s.collector ∧ (s.returnMember n).pool = s.pool ∧
      (s.returnMember n).ring = s.ring ∧ (s.returnMember n).test = s.test ∧
      (s.returnMember n).highway = s.highway ∧ (s.returnMember n).sli = s.sli ∧
      (s.returnMember n).mode = s.mode := by
  unfold State.returnMember
  try dsimp only
  (repeat' split) <;> simp

@[simp] theorem State.returnMembers_keeps (s : State) (ns : List LineNo) :
    (s.returnMembers ns).pending = s.pending ∧ (s.returnMembers ns).now = s.now ∧
      (s.returnMembers ns).fresh = s.fresh ∧ (s.returnMembers ns).straps = s.straps ∧
      (s.returnMembers ns).periods = s.periods ∧ (s.returnMembers ns).scanner = s.scanner ∧
      (s.returnMembers ns).collector = s.collector ∧ (s.returnMembers ns).pool = s.pool ∧
      (s.returnMembers ns).ring = s.ring ∧ (s.returnMembers ns).test = s.test ∧
      (s.returnMembers ns).highway = s.highway ∧ (s.returnMembers ns).sli = s.sli ∧
      (s.returnMembers ns).mode = s.mode := by
  unfold State.returnMembers
  refine ⟨?_, ?_, ?_, ?_, ?_, ?_, ?_, ?_, ?_, ?_, ?_, ?_, ?_⟩ <;>
    exact (foldl_keeps _ _ (fun _ _ => by simp) _ _).trans (by simp)

@[simp] theorem State.endRecord_keeps (s : State) (pos : AlertPos) (st : AlertState) (c : Option AlertCause) (a : Option LineNo) :
    (s.endRecord pos st c a).pending = s.pending ∧ (s.endRecord pos st c a).now = s.now ∧
      (s.endRecord pos st c a).fresh = s.fresh ∧ (s.endRecord pos st c a).straps = s.straps ∧
      (s.endRecord pos st c a).periods = s.periods ∧ (s.endRecord pos st c a).scanner = s.scanner ∧
      (s.endRecord pos st c a).lines = s.lines ∧ (s.endRecord pos st c a).collector = s.collector ∧
      (s.endRecord pos st c a).pool = s.pool ∧ (s.endRecord pos st c a).power = s.power ∧
      (s.endRecord pos st c a).tones = s.tones ∧ (s.endRecord pos st c a).test = s.test ∧
      (s.endRecord pos st c a).highway = s.highway ∧ (s.endRecord pos st c a).sli = s.sli ∧
      (s.endRecord pos st c a).mode = s.mode := by
  unfold State.endRecord
  try dsimp only
  simp

@[simp] theorem State.endUnanswered_keeps (s : State) (pos : AlertPos) (st : AlertState) (c : Option AlertCause) :
    (s.endUnanswered pos st c).pending = s.pending ∧ (s.endUnanswered pos st c).now = s.now ∧
      (s.endUnanswered pos st c).fresh = s.fresh ∧ (s.endUnanswered pos st c).straps = s.straps ∧
      (s.endUnanswered pos st c).periods = s.periods ∧ (s.endUnanswered pos st c).scanner = s.scanner ∧
      (s.endUnanswered pos st c).collector = s.collector ∧ (s.endUnanswered pos st c).pool = s.pool ∧
      (s.endUnanswered pos st c).test = s.test ∧ (s.endUnanswered pos st c).highway = s.highway ∧
      (s.endUnanswered pos st c).sli = s.sli ∧ (s.endUnanswered pos st c).mode = s.mode := by
  unfold State.endUnanswered
  try dsimp only
  (repeat' split) <;> simp

@[simp] theorem State.admitAlong_keeps (s : State) (l : List LineNo) :
    (s.admitAlong l).pending = s.pending ∧ (s.admitAlong l).now = s.now ∧
      (s.admitAlong l).fresh = s.fresh ∧ (s.admitAlong l).straps = s.straps ∧
      (s.admitAlong l).periods = s.periods ∧ (s.admitAlong l).scanner = s.scanner ∧
      (s.admitAlong l).pool = s.pool ∧ (s.admitAlong l).ring = s.ring ∧ (s.admitAlong l).test = s.test ∧
      (s.admitAlong l).highway = s.highway ∧ (s.admitAlong l).sli = s.sli ∧ (s.admitAlong l).mode = s.mode := by
  induction l generalizing s with
  | nil => simp [State.admitAlong]
  | cons _ _ ih =>
    unfold State.admitAlong
    (repeat' split) <;> simp [ih]

@[simp] theorem State.changeFeed_keeps (s : State) (n : LineNo) (c : Feed) :
    (s.changeFeed n c).pending = s.pending ∧ (s.changeFeed n c).now = s.now ∧
      (s.changeFeed n c).fresh = s.fresh ∧ (s.changeFeed n c).straps = s.straps ∧
      (s.changeFeed n c).periods = s.periods ∧ (s.changeFeed n c).scanner = s.scanner ∧
      (s.changeFeed n c).collector = s.collector ∧ (s.changeFeed n c).pool = s.pool ∧
      (s.changeFeed n c).ring = s.ring ∧ (s.changeFeed n c).power = s.power ∧
      (s.changeFeed n c).tones = s.tones ∧ (s.changeFeed n c).test = s.test ∧
      (s.changeFeed n c).highway = s.highway ∧ (s.changeFeed n c).sli = s.sli ∧
      (s.changeFeed n c).mode = s.mode := by
  unfold State.changeFeed
  try dsimp only
  simp

@[simp] theorem State.upgradeAlong_keeps (s : State) (l : List LineNo) :
    (s.upgradeAlong l).pending = s.pending ∧ (s.upgradeAlong l).now = s.now ∧
      (s.upgradeAlong l).fresh = s.fresh ∧ (s.upgradeAlong l).straps = s.straps ∧
      (s.upgradeAlong l).periods = s.periods ∧ (s.upgradeAlong l).scanner = s.scanner ∧
      (s.upgradeAlong l).collector = s.collector ∧ (s.upgradeAlong l).pool = s.pool ∧
      (s.upgradeAlong l).ring = s.ring ∧ (s.upgradeAlong l).power = s.power ∧
      (s.upgradeAlong l).tones = s.tones ∧ (s.upgradeAlong l).test = s.test ∧
      (s.upgradeAlong l).highway = s.highway ∧ (s.upgradeAlong l).sli = s.sli ∧
      (s.upgradeAlong l).mode = s.mode := by
  induction l generalizing s with
  | nil => simp [State.upgradeAlong]
  | cons _ _ ih =>
    unfold State.upgradeAlong
    (repeat' split) <;> simp [ih]

@[simp] theorem State.reevaluate_keeps (s : State) :
    (s.reevaluate).pending = s.pending ∧ (s.reevaluate).now = s.now ∧ (s.reevaluate).fresh = s.fresh ∧
      (s.reevaluate).straps = s.straps ∧ (s.reevaluate).periods = s.periods ∧
      (s.reevaluate).scanner = s.scanner ∧ (s.reevaluate).pool = s.pool ∧ (s.reevaluate).test = s.test ∧
      (s.reevaluate).highway = s.highway ∧ (s.reevaluate).sli = s.sli ∧ (s.reevaluate).mode = s.mode := by
  unfold State.reevaluate
  try dsimp only
  simp

@[simp] theorem State.shedRinging_keeps (s : State) (l : List AlertPos) :
    (s.shedRinging l).pending = s.pending ∧ (s.shedRinging l).now = s.now ∧
      (s.shedRinging l).fresh = s.fresh ∧ (s.shedRinging l).straps = s.straps ∧
      (s.shedRinging l).periods = s.periods ∧ (s.shedRinging l).scanner = s.scanner ∧
      (s.shedRinging l).lines = s.lines ∧ (s.shedRinging l).collector = s.collector ∧
      (s.shedRinging l).pool = s.pool ∧ (s.shedRinging l).power = s.power ∧
      (s.shedRinging l).tones = s.tones ∧ (s.shedRinging l).test = s.test ∧
      (s.shedRinging l).highway = s.highway ∧ (s.shedRinging l).sli = s.sli ∧ (s.shedRinging l).mode = s.mode := by
  induction l generalizing s with
  | nil => simp [State.shedRinging]
  | cons _ _ ih =>
    unfold State.shedRinging
    (repeat' split) <;> simp [ih]

@[simp] theorem State.shedFeed_keeps (s : State) (l : List LineNo) :
    (s.shedFeed l).pending = s.pending ∧ (s.shedFeed l).now = s.now ∧ (s.shedFeed l).fresh = s.fresh ∧
      (s.shedFeed l).straps = s.straps ∧ (s.shedFeed l).periods = s.periods ∧
      (s.shedFeed l).scanner = s.scanner ∧ (s.shedFeed l).collector = s.collector ∧
      (s.shedFeed l).pool = s.pool ∧ (s.shedFeed l).ring = s.ring ∧ (s.shedFeed l).power = s.power ∧
      (s.shedFeed l).tones = s.tones ∧ (s.shedFeed l).test = s.test ∧ (s.shedFeed l).highway = s.highway ∧
      (s.shedFeed l).sli = s.sli ∧ (s.shedFeed l).mode = s.mode := by
  induction l generalizing s with
  | nil => simp [State.shedFeed]
  | cons _ _ ih =>
    unfold State.shedFeed
    (repeat' split) <;> simp [ih]

@[simp] theorem State.shed_keeps (s : State) :
    (s.shed).pending = s.pending ∧ (s.shed).now = s.now ∧ (s.shed).fresh = s.fresh ∧
      (s.shed).straps = s.straps ∧ (s.shed).periods = s.periods ∧ (s.shed).scanner = s.scanner ∧
      (s.shed).collector = s.collector ∧ (s.shed).pool = s.pool ∧ (s.shed).power = s.power ∧
      (s.shed).tones = s.tones ∧ (s.shed).test = s.test ∧ (s.shed).highway = s.highway ∧
      (s.shed).sli = s.sli ∧ (s.shed).mode = s.mode := by
  unfold State.shed
  try dsimp only
  simp

@[simp] theorem State.settle_keeps (before : Nat) (s : State) :
    (s.settle before).pending = s.pending ∧ (s.settle before).now = s.now ∧
      (s.settle before).fresh = s.fresh ∧ (s.settle before).straps = s.straps ∧
      (s.settle before).periods = s.periods ∧ (s.settle before).scanner = s.scanner ∧
      (s.settle before).pool = s.pool ∧ (s.settle before).test = s.test ∧
      (s.settle before).highway = s.highway ∧ (s.settle before).mode = s.mode := by
  unfold State.settle
  try dsimp only
  (repeat' split) <;> simp

@[simp] theorem State.abortTest_keeps (s : State) (c : TestCause) :
    (s.abortTest c).pending = s.pending ∧ (s.abortTest c).now = s.now ∧ (s.abortTest c).fresh = s.fresh ∧
      (s.abortTest c).straps = s.straps ∧ (s.abortTest c).periods = s.periods ∧
      (s.abortTest c).scanner = s.scanner ∧ (s.abortTest c).lines = s.lines ∧
      (s.abortTest c).collector = s.collector ∧ (s.abortTest c).ring = s.ring ∧
      (s.abortTest c).power = s.power ∧ (s.abortTest c).tones = s.tones ∧
      (s.abortTest c).highway = s.highway ∧ (s.abortTest c).sli = s.sli ∧ (s.abortTest c).mode = s.mode := by
  unfold State.abortTest
  try dsimp only
  (repeat' split) <;> simp

@[simp] theorem State.hold_keeps (s : State) (n : LineNo) (b : BearerNo) :
    (s.hold n b).pending = s.pending ∧ (s.hold n b).now = s.now ∧ (s.hold n b).fresh = s.fresh ∧
      (s.hold n b).straps = s.straps ∧ (s.hold n b).periods = s.periods ∧ (s.hold n b).scanner = s.scanner ∧
      (s.hold n b).collector = s.collector ∧ (s.hold n b).ring = s.ring ∧ (s.hold n b).power = s.power ∧
      (s.hold n b).tones = s.tones ∧ (s.hold n b).test = s.test ∧ (s.hold n b).highway = s.highway ∧
      (s.hold n b).sli = s.sli ∧ (s.hold n b).mode = s.mode := by
  unfold State.hold
  try dsimp only
  simp

@[simp] theorem State.grant_keeps (s : State) (n : LineNo) (b : BearerNo) :
    (s.grant n b).pending = s.pending ∧ (s.grant n b).now = s.now ∧ (s.grant n b).fresh = s.fresh ∧
      (s.grant n b).straps = s.straps ∧ (s.grant n b).periods = s.periods ∧
      (s.grant n b).scanner = s.scanner ∧ (s.grant n b).collector = s.collector ∧
      (s.grant n b).ring = s.ring ∧ (s.grant n b).power = s.power ∧ (s.grant n b).tones = s.tones ∧
      (s.grant n b).test = s.test ∧ (s.grant n b).highway = s.highway ∧ (s.grant n b).sli = s.sli ∧
      (s.grant n b).mode = s.mode := by
  unfold State.grant
  try dsimp only
  simp

@[simp] theorem State.enterFree_keeps (s : State) (b : BearerNo) :
    (s.enterFree b).pending = s.pending ∧ (s.enterFree b).now = s.now ∧ (s.enterFree b).fresh = s.fresh ∧
      (s.enterFree b).straps = s.straps ∧ (s.enterFree b).periods = s.periods ∧
      (s.enterFree b).scanner = s.scanner ∧ (s.enterFree b).collector = s.collector ∧
      (s.enterFree b).ring = s.ring ∧ (s.enterFree b).power = s.power ∧ (s.enterFree b).tones = s.tones ∧
      (s.enterFree b).test = s.test ∧ (s.enterFree b).highway = s.highway ∧ (s.enterFree b).sli = s.sli ∧
      (s.enterFree b).mode = s.mode := by
  unfold State.enterFree
  try dsimp only
  (repeat' split) <;> simp

@[simp] theorem State.joinQueue_keeps (s : State) (n : LineNo) (c : QueueClass) :
    (s.joinQueue n c).pending = s.pending ∧ (s.joinQueue n c).now = s.now ∧
      (s.joinQueue n c).fresh = s.fresh ∧ (s.joinQueue n c).straps = s.straps ∧
      (s.joinQueue n c).periods = s.periods ∧ (s.joinQueue n c).scanner = s.scanner ∧
      (s.joinQueue n c).collector = s.collector ∧ (s.joinQueue n c).ring = s.ring ∧
      (s.joinQueue n c).power = s.power ∧ (s.joinQueue n c).tones = s.tones ∧
      (s.joinQueue n c).test = s.test ∧ (s.joinQueue n c).highway = s.highway ∧
      (s.joinQueue n c).sli = s.sli ∧ (s.joinQueue n c).mode = s.mode := by
  unfold State.joinQueue
  try dsimp only
  simp

@[simp] theorem State.leaveQueue_keeps (s : State) (n : LineNo) :
    (s.leaveQueue n).pending = s.pending ∧ (s.leaveQueue n).now = s.now ∧
      (s.leaveQueue n).fresh = s.fresh ∧ (s.leaveQueue n).straps = s.straps ∧
      (s.leaveQueue n).periods = s.periods ∧ (s.leaveQueue n).scanner = s.scanner ∧
      (s.leaveQueue n).lines = s.lines ∧ (s.leaveQueue n).collector = s.collector ∧
      (s.leaveQueue n).ring = s.ring ∧ (s.leaveQueue n).power = s.power ∧ (s.leaveQueue n).tones = s.tones ∧
      (s.leaveQueue n).test = s.test ∧ (s.leaveQueue n).highway = s.highway ∧ (s.leaveQueue n).sli = s.sli ∧
      (s.leaveQueue n).mode = s.mode := by
  unfold State.leaveQueue
  try dsimp only
  simp

@[simp] theorem State.preemptAlert_keeps (s : State) (n : LineNo) :
    (s.preemptAlert n).pending = s.pending ∧ (s.preemptAlert n).now = s.now ∧
      (s.preemptAlert n).fresh = s.fresh ∧ (s.preemptAlert n).straps = s.straps ∧
      (s.preemptAlert n).periods = s.periods ∧ (s.preemptAlert n).scanner = s.scanner ∧
      (s.preemptAlert n).collector = s.collector ∧ (s.preemptAlert n).test = s.test ∧
      (s.preemptAlert n).highway = s.highway ∧ (s.preemptAlert n).sli = s.sli ∧
      (s.preemptAlert n).mode = s.mode := by
  unfold State.preemptAlert
  try dsimp only
  (repeat' split) <;> simp

@[simp] theorem State.supply_keeps (s : State) (n : LineNo) (c : QueueClass) :
    (s.supply n c).pending = s.pending ∧ (s.supply n c).now = s.now ∧ (s.supply n c).fresh = s.fresh ∧
      (s.supply n c).straps = s.straps ∧ (s.supply n c).periods = s.periods ∧
      (s.supply n c).scanner = s.scanner ∧ (s.supply n c).collector = s.collector ∧
      (s.supply n c).highway = s.highway ∧ (s.supply n c).sli = s.sli ∧ (s.supply n c).mode = s.mode := by
  unfold State.supply
  try dsimp only
  (repeat' split) <;> simp

@[simp] theorem State.handBack_keeps (s : State) (n : LineNo) :
    (s.handBack n).pending = s.pending ∧ (s.handBack n).now = s.now ∧ (s.handBack n).fresh = s.fresh ∧
      (s.handBack n).straps = s.straps ∧ (s.handBack n).periods = s.periods ∧
      (s.handBack n).scanner = s.scanner ∧ (s.handBack n).collector = s.collector ∧
      (s.handBack n).ring = s.ring ∧ (s.handBack n).power = s.power ∧ (s.handBack n).tones = s.tones ∧
      (s.handBack n).test = s.test ∧ (s.handBack n).highway = s.highway ∧ (s.handBack n).sli = s.sli ∧
      (s.handBack n).mode = s.mode := by
  unfold State.handBack
  try dsimp only
  (repeat' split) <;> simp

@[simp] theorem State.endReturning_keeps (s : State) (pos : AlertPos) (st : AlertState) :
    (s.endReturning pos st).pending = s.pending ∧ (s.endReturning pos st).now = s.now ∧
      (s.endReturning pos st).fresh = s.fresh ∧ (s.endReturning pos st).straps = s.straps ∧
      (s.endReturning pos st).periods = s.periods ∧ (s.endReturning pos st).scanner = s.scanner ∧
      (s.endReturning pos st).collector = s.collector ∧ (s.endReturning pos st).test = s.test ∧
      (s.endReturning pos st).highway = s.highway ∧ (s.endReturning pos st).sli = s.sli ∧
      (s.endReturning pos st).mode = s.mode := by
  unfold State.endReturning
  try dsimp only
  (repeat' split) <;> simp

@[simp] theorem State.originate_keeps (s : State) (n : LineNo) :
    (s.originate n).pending = s.pending ∧ (s.originate n).now = s.now ∧ (s.originate n).fresh = s.fresh ∧
      (s.originate n).straps = s.straps ∧ (s.originate n).periods = s.periods ∧
      (s.originate n).scanner = s.scanner ∧ (s.originate n).pool = s.pool ∧ (s.originate n).ring = s.ring ∧
      (s.originate n).test = s.test ∧ (s.originate n).highway = s.highway ∧ (s.originate n).mode = s.mode := by
  unfold State.originate
  try dsimp only
  (repeat' split) <;> simp

@[simp] theorem State.releaseCall_keeps (s : State) (n : LineNo) :
    (s.releaseCall n).pending = s.pending ∧ (s.releaseCall n).now = s.now ∧
      (s.releaseCall n).fresh = s.fresh ∧ (s.releaseCall n).straps = s.straps ∧
      (s.releaseCall n).periods = s.periods ∧ (s.releaseCall n).ring = s.ring ∧
      (s.releaseCall n).test = s.test ∧ (s.releaseCall n).highway = s.highway ∧
      (s.releaseCall n).sli = s.sli ∧ (s.releaseCall n).mode = s.mode := by
  unfold State.releaseCall
  try dsimp only
  (repeat' split) <;> simp

@[simp] theorem State.release_keeps (s : State) (n : LineNo) :
    (s.release n).pending = s.pending ∧ (s.release n).now = s.now ∧ (s.release n).fresh = s.fresh ∧
      (s.release n).straps = s.straps ∧ (s.release n).periods = s.periods ∧ (s.release n).test = s.test ∧
      (s.release n).highway = s.highway ∧ (s.release n).mode = s.mode := by
  unfold State.release State.accounted
  simp

@[simp] theorem State.flash_keeps (s : State) (n : LineNo) :
    (s.flash n).pending = s.pending ∧ (s.flash n).now = s.now ∧ (s.flash n).fresh = s.fresh ∧
      (s.flash n).straps = s.straps ∧ (s.flash n).periods = s.periods ∧ (s.flash n).scanner = s.scanner ∧
      (s.flash n).collector = s.collector ∧ (s.flash n).pool = s.pool ∧ (s.flash n).ring = s.ring ∧
      (s.flash n).power = s.power ∧ (s.flash n).tones = s.tones ∧ (s.flash n).test = s.test ∧
      (s.flash n).highway = s.highway ∧ (s.flash n).sli = s.sli ∧ (s.flash n).mode = s.mode := by
  unfold State.flash
  try dsimp only
  simp

@[simp] theorem State.answerFeed_keeps (s : State) (pos : AlertPos) (n : LineNo) :
    (s.answerFeed pos n).pending = s.pending ∧ (s.answerFeed pos n).now = s.now ∧
      (s.answerFeed pos n).fresh = s.fresh ∧ (s.answerFeed pos n).straps = s.straps ∧
      (s.answerFeed pos n).periods = s.periods ∧ (s.answerFeed pos n).scanner = s.scanner ∧
      (s.answerFeed pos n).collector = s.collector ∧ (s.answerFeed pos n).pool = s.pool ∧
      (s.answerFeed pos n).tones = s.tones ∧ (s.answerFeed pos n).test = s.test ∧
      (s.answerFeed pos n).highway = s.highway ∧ (s.answerFeed pos n).sli = s.sli ∧
      (s.answerFeed pos n).mode = s.mode := by
  unfold State.answerFeed
  dsimp only
  split <;> simp

@[simp] theorem State.answer_keeps (s : State) (pos : AlertPos) (a : AlertRecord) (n : LineNo) :
    (s.answer pos a n).pending = s.pending ∧ (s.answer pos a n).now = s.now ∧
      (s.answer pos a n).fresh = s.fresh ∧ (s.answer pos a n).straps = s.straps ∧
      (s.answer pos a n).periods = s.periods ∧ (s.answer pos a n).scanner = s.scanner ∧
      (s.answer pos a n).test = s.test ∧ (s.answer pos a n).highway = s.highway ∧
      (s.answer pos a n).mode = s.mode := by
  unfold State.answer
  dsimp only
  split <;> simp

theorem State.answerTaken_keeps {s t : State} {n : LineNo} {k : Nat} (h : s.answerTaken n k = some t) :
    (t).pending = s.pending ∧ (t).now = s.now ∧ (t).fresh = s.fresh ∧ (t).straps = s.straps ∧
      (t).periods = s.periods ∧ (t).scanner = s.scanner ∧ (t).test = s.test ∧ (t).highway = s.highway ∧
      (t).mode = s.mode := by
  unfold State.answerTaken at h
  revert h
  (repeat' split) <;> simp only [reduceCtorEq, Option.some.injEq, false_implies]
  rintro rfl
  simp

@[simp] theorem State.takeOff_keeps (s : State) (n : LineNo) :
    (s.takeOff n).pending = s.pending ∧ (s.takeOff n).now = s.now ∧ (s.takeOff n).fresh = s.fresh ∧
      (s.takeOff n).straps = s.straps ∧ (s.takeOff n).periods = s.periods ∧
      (s.takeOff n).scanner = s.scanner ∧ (s.takeOff n).test = s.test ∧ (s.takeOff n).highway = s.highway ∧
      (s.takeOff n).mode = s.mode := by
  unfold State.takeOff
  split
  · simp
  · split
    · simp
    · split
      · simp
      · rename_i h
        simp [State.answerTaken_keeps h]
  all_goals simp

@[simp] theorem State.takeAnswer_keeps (s : State) (n : LineNo) (k : Nat) :
    (s.takeAnswer n k).pending = s.pending ∧ (s.takeAnswer n k).now = s.now ∧
      (s.takeAnswer n k).fresh = s.fresh ∧ (s.takeAnswer n k).straps = s.straps ∧
      (s.takeAnswer n k).periods = s.periods ∧ (s.takeAnswer n k).scanner = s.scanner ∧
      (s.takeAnswer n k).test = s.test ∧ (s.takeAnswer n k).highway = s.highway ∧
      (s.takeAnswer n k).mode = s.mode := by
  unfold State.takeAnswer
  split
  · simp
  · rename_i h
    simp [State.answerTaken_keeps h]

@[simp] theorem State.misdial_keeps (s : State) (n : LineNo) :
    (s.misdial n).pending = s.pending ∧ (s.misdial n).now = s.now ∧ (s.misdial n).fresh = s.fresh ∧
      (s.misdial n).straps = s.straps ∧ (s.misdial n).periods = s.periods ∧ (s.misdial n).pool = s.pool ∧
      (s.misdial n).ring = s.ring ∧ (s.misdial n).power = s.power ∧ (s.misdial n).test = s.test ∧
      (s.misdial n).highway = s.highway ∧ (s.misdial n).sli = s.sli ∧ (s.misdial n).mode = s.mode := by
  unfold State.misdial
  try dsimp only
  simp

@[simp] theorem State.flushQueue_keeps (s : State) :
    (s.flushQueue).pending = s.pending ∧ (s.flushQueue).now = s.now ∧ (s.flushQueue).fresh = s.fresh ∧
      (s.flushQueue).straps = s.straps ∧ (s.flushQueue).periods = s.periods ∧
      (s.flushQueue).scanner = s.scanner ∧ (s.flushQueue).collector = s.collector ∧
      (s.flushQueue).ring = s.ring ∧ (s.flushQueue).power = s.power ∧ (s.flushQueue).test = s.test ∧
      (s.flushQueue).highway = s.highway ∧ (s.flushQueue).sli = s.sli ∧ (s.flushQueue).mode = s.mode := by
  unfold State.flushQueue
  refine ⟨?_, ?_, ?_, ?_, ?_, ?_, ?_, ?_, ?_, ?_, ?_, ?_, ?_⟩ <;>
    exact (foldl_keeps _ _ (fun _ _ => by simp) _ _).trans (by simp)

@[simp] theorem State.endHowler_keeps (s : State) (n : LineNo) :
    (s.endHowler n).pending = s.pending ∧ (s.endHowler n).now = s.now ∧ (s.endHowler n).fresh = s.fresh ∧
      (s.endHowler n).straps = s.straps ∧ (s.endHowler n).periods = s.periods ∧
      (s.endHowler n).scanner = s.scanner ∧ (s.endHowler n).collector = s.collector ∧
      (s.endHowler n).pool = s.pool ∧ (s.endHowler n).ring = s.ring ∧ (s.endHowler n).power = s.power ∧
      (s.endHowler n).test = s.test ∧ (s.endHowler n).highway = s.highway ∧ (s.endHowler n).sli = s.sli ∧
      (s.endHowler n).mode = s.mode := by
  unfold State.endHowler
  try dsimp only
  simp

@[simp] theorem State.completeNumber_keeps (s : State) (n : LineNo) :
    (s.completeNumber n).pending = s.pending ∧ (s.completeNumber n).now = s.now ∧
      (s.completeNumber n).fresh = s.fresh ∧ (s.completeNumber n).straps = s.straps ∧
      (s.completeNumber n).periods = s.periods ∧ (s.completeNumber n).highway = s.highway ∧
      (s.completeNumber n).sli = s.sli ∧ (s.completeNumber n).mode = s.mode := by
  unfold State.completeNumber
  dsimp only
  (repeat' split) <;> simp

@[simp] theorem State.complete_keeps (s : State) (n : LineNo) :
    (s.complete n).pending = s.pending ∧ (s.complete n).now = s.now ∧ (s.complete n).fresh = s.fresh ∧
      (s.complete n).straps = s.straps ∧ (s.complete n).periods = s.periods ∧
      (s.complete n).highway = s.highway ∧ (s.complete n).mode = s.mode := by
  unfold State.complete State.accounted
  simp

@[simp] theorem State.bar_keeps (s : State) (n : LineNo) :
    (s.bar n).pending = s.pending ∧ (s.bar n).now = s.now ∧ (s.bar n).fresh = s.fresh ∧
      (s.bar n).straps = s.straps ∧ (s.bar n).periods = s.periods ∧ (s.bar n).pool = s.pool ∧
      (s.bar n).ring = s.ring ∧ (s.bar n).power = s.power ∧ (s.bar n).test = s.test ∧
      (s.bar n).highway = s.highway ∧ (s.bar n).sli = s.sli ∧ (s.bar n).mode = s.mode := by
  unfold State.bar
  try dsimp only
  simp

@[simp] theorem State.recordDigit_keeps (s : State) (n : LineNo) (d : Digit) :
    (s.recordDigit n d).pending = s.pending ∧ (s.recordDigit n d).now = s.now ∧
      (s.recordDigit n d).fresh = s.fresh ∧ (s.recordDigit n d).straps = s.straps ∧
      (s.recordDigit n d).periods = s.periods ∧ (s.recordDigit n d).scanner = s.scanner ∧
      (s.recordDigit n d).collector = s.collector ∧ (s.recordDigit n d).pool = s.pool ∧
      (s.recordDigit n d).ring = s.ring ∧ (s.recordDigit n d).power = s.power ∧
      (s.recordDigit n d).test = s.test ∧ (s.recordDigit n d).highway = s.highway ∧
      (s.recordDigit n d).sli = s.sli ∧ (s.recordDigit n d).mode = s.mode := by
  unfold State.recordDigit
  dsimp only
  split <;> simp

@[simp] theorem State.checkNumber_keeps (s : State) (n : LineNo) :
    (s.checkNumber n).pending = s.pending ∧ (s.checkNumber n).now = s.now ∧
      (s.checkNumber n).fresh = s.fresh ∧ (s.checkNumber n).straps = s.straps ∧
      (s.checkNumber n).periods = s.periods ∧ (s.checkNumber n).highway = s.highway ∧
      (s.checkNumber n).mode = s.mode := by
  unfold State.checkNumber
  dsimp only
  (repeat' split) <;> simp

@[simp] theorem State.appendDigit_keeps (s : State) (n : LineNo) (d : Digit) :
    (s.appendDigit n d).pending = s.pending ∧ (s.appendDigit n d).now = s.now ∧
      (s.appendDigit n d).fresh = s.fresh ∧ (s.appendDigit n d).straps = s.straps ∧
      (s.appendDigit n d).periods = s.periods ∧ (s.appendDigit n d).highway = s.highway ∧
      (s.appendDigit n d).mode = s.mode := by
  unfold State.appendDigit
  try dsimp only
  simp

@[simp] theorem State.hashKey_keeps (s : State) (n : LineNo) :
    (s.hashKey n).pending = s.pending ∧ (s.hashKey n).now = s.now ∧ (s.hashKey n).fresh = s.fresh ∧
      (s.hashKey n).straps = s.straps ∧ (s.hashKey n).periods = s.periods ∧
      (s.hashKey n).highway = s.highway ∧ (s.hashKey n).mode = s.mode := by
  unfold State.hashKey
  try dsimp only
  (repeat' split) <;> simp

@[simp] theorem State.takeKey_keeps (s : State) (r : ReceiverNo) (k : Key) :
    (s.takeKey r k).pending = s.pending ∧ (s.takeKey r k).now = s.now ∧ (s.takeKey r k).fresh = s.fresh ∧
      (s.takeKey r k).straps = s.straps ∧ (s.takeKey r k).periods = s.periods ∧
      (s.takeKey r k).highway = s.highway ∧ (s.takeKey r k).mode = s.mode := by
  unfold State.takeKey
  try dsimp only
  (repeat' split) <;> simp

@[simp] theorem State.closeTrain_keeps (s : State) (n : LineNo) :
    (s.closeTrain n).pending = s.pending ∧ (s.closeTrain n).now = s.now ∧
      (s.closeTrain n).fresh = s.fresh ∧ (s.closeTrain n).straps = s.straps ∧
      (s.closeTrain n).periods = s.periods ∧ (s.closeTrain n).highway = s.highway ∧
      (s.closeTrain n).mode = s.mode := by
  unfold State.closeTrain
  dsimp only
  (repeat' split) <;> simp

@[simp] theorem State.startSupervision_keeps (s : State) :
    (s.startSupervision).pending = s.pending ∧ (s.startSupervision).now = s.now ∧
      (s.startSupervision).fresh = s.fresh ∧ (s.startSupervision).straps = s.straps ∧
      (s.startSupervision).periods = s.periods ∧ (s.startSupervision).scanner = s.scanner ∧
      (s.startSupervision).lines = s.lines ∧ (s.startSupervision).collector = s.collector ∧
      (s.startSupervision).pool = s.pool ∧ (s.startSupervision).ring = s.ring ∧
      (s.startSupervision).power = s.power ∧ (s.startSupervision).tones = s.tones ∧
      (s.startSupervision).test = s.test ∧ (s.startSupervision).highway = s.highway ∧
      (s.startSupervision).mode = s.mode := by
  unfold State.startSupervision
  try dsimp only
  simp

@[simp] theorem State.resumeSupervision_keeps (s : State) (c : WakeCause) :
    (s.resumeSupervision c).pending = s.pending ∧ (s.resumeSupervision c).now = s.now ∧
      (s.resumeSupervision c).fresh = s.fresh ∧ (s.resumeSupervision c).straps = s.straps ∧
      (s.resumeSupervision c).periods = s.periods ∧ (s.resumeSupervision c).scanner = s.scanner ∧
      (s.resumeSupervision c).lines = s.lines ∧ (s.resumeSupervision c).collector = s.collector ∧
      (s.resumeSupervision c).pool = s.pool ∧ (s.resumeSupervision c).ring = s.ring ∧
      (s.resumeSupervision c).power = s.power ∧ (s.resumeSupervision c).tones = s.tones ∧
      (s.resumeSupervision c).test = s.test ∧ (s.resumeSupervision c).highway = s.highway ∧
      (s.resumeSupervision c).mode = s.mode := by
  unfold State.resumeSupervision
  try dsimp only
  (repeat' split) <;> simp

@[simp] theorem State.wake_keeps (s : State) (c : WakeCause) :
    (s.wake c).pending = s.pending ∧ (s.wake c).now = s.now ∧ (s.wake c).fresh = s.fresh ∧
      (s.wake c).straps = s.straps ∧ (s.wake c).periods = s.periods ∧ (s.wake c).scanner = s.scanner ∧
      (s.wake c).pool = s.pool ∧ (s.wake c).test = s.test := by
  unfold State.wake
  try dsimp only
  simp

@[simp] theorem State.wakeIfConserving_keeps (s : State) (c : WakeCause) :
    (s.wakeIfConserving c).pending = s.pending ∧ (s.wakeIfConserving c).now = s.now ∧
      (s.wakeIfConserving c).fresh = s.fresh ∧ (s.wakeIfConserving c).straps = s.straps ∧
      (s.wakeIfConserving c).periods = s.periods ∧ (s.wakeIfConserving c).scanner = s.scanner ∧
      (s.wakeIfConserving c).pool = s.pool ∧ (s.wakeIfConserving c).test = s.test := by
  unfold State.wakeIfConserving
  try dsimp only
  (repeat' split) <;> simp

@[simp] theorem State.enterConserve_keeps (s : State) (limit : Nat) :
    (s.enterConserve limit).pending = s.pending ∧ (s.enterConserve limit).now = s.now ∧
      (s.enterConserve limit).fresh = s.fresh ∧ (s.enterConserve limit).straps = s.straps ∧
      (s.enterConserve limit).periods = s.periods ∧ (s.enterConserve limit).scanner = s.scanner ∧
      (s.enterConserve limit).pool = s.pool ∧ (s.enterConserve limit).test = s.test := by
  unfold State.enterConserve
  try dsimp only
  (repeat' split) <;> simp

@[simp] theorem State.gapPoint_keeps (s : State) (n : LineNo) :
    (s.gapPoint n).pending = s.pending ∧ (s.gapPoint n).now = s.now ∧ (s.gapPoint n).fresh = s.fresh ∧
      (s.gapPoint n).straps = s.straps ∧ (s.gapPoint n).periods = s.periods ∧
      (s.gapPoint n).highway = s.highway ∧ (s.gapPoint n).mode = s.mode := by
  unfold State.gapPoint
  try dsimp only
  (repeat' split) <;> simp

@[simp] theorem State.releasePoint_keeps (s : State) (n : LineNo) :
    (s.releasePoint n).pending = s.pending ∧ (s.releasePoint n).now = s.now ∧
      (s.releasePoint n).fresh = s.fresh ∧ (s.releasePoint n).straps = s.straps ∧
      (s.releasePoint n).periods = s.periods ∧ (s.releasePoint n).highway = s.highway ∧
      (s.releasePoint n).mode = s.mode := by
  unfold State.releasePoint
  try dsimp only
  (repeat' split) <;> simp

@[simp] theorem State.runFails_keeps (s : State) (n : LineNo) :
    (s.runFails n).pending = s.pending ∧ (s.runFails n).now = s.now ∧ (s.runFails n).fresh = s.fresh ∧
      (s.runFails n).straps = s.straps ∧ (s.runFails n).periods = s.periods ∧
      (s.runFails n).highway = s.highway ∧ (s.runFails n).mode = s.mode := by
  unfold State.runFails
  dsimp only
  (repeat' split) <;> simp

@[simp] theorem State.takeHanded_keeps (s : State) (h : Handed) :
    (s.takeHanded h).pending = s.pending ∧ (s.takeHanded h).now = s.now ∧
      (s.takeHanded h).fresh = s.fresh ∧ (s.takeHanded h).straps = s.straps ∧
      (s.takeHanded h).periods = s.periods := by
  unfold State.takeHanded
  try dsimp only
  (repeat' split) <;> simp

@[simp] theorem State.takeHandedOf_keeps (s : State) (n : LineNo) :
    (s.takeHandedOf n).pending = s.pending ∧ (s.takeHandedOf n).now = s.now ∧
      (s.takeHandedOf n).fresh = s.fresh ∧ (s.takeHandedOf n).straps = s.straps ∧
      (s.takeHandedOf n).periods = s.periods := by
  unfold State.takeHandedOf
  refine ⟨?_, ?_, ?_, ?_, ?_⟩ <;>
    exact (foldl_keeps _ _ (fun _ _ => by simp) _ _).trans (by simp)

@[simp] theorem State.onTransition_keeps (s : State) (n : LineNo) :
    (s.onTransition n).pending = s.pending ∧ (s.onTransition n).now = s.now ∧
      (s.onTransition n).fresh = s.fresh ∧ (s.onTransition n).straps = s.straps ∧
      (s.onTransition n).periods = s.periods := by
  unfold State.onTransition
  dsimp only
  (repeat' split) <;> simp

@[simp] theorem State.breakInDial_keeps (s : State) (n : LineNo) (t b : Nat) :
    (s.breakInDial n t b).pending = s.pending ∧ (s.breakInDial n t b).now = s.now ∧
      (s.breakInDial n t b).fresh = s.fresh ∧ (s.breakInDial n t b).straps = s.straps ∧
      (s.breakInDial n t b).periods = s.periods ∧ (s.breakInDial n t b).highway = s.highway ∧
      (s.breakInDial n t b).mode = s.mode := by
  unfold State.breakInDial
  try dsimp only
  (repeat' split) <;> simp

@[simp] theorem State.breakInConnected_keeps (s : State) (n : LineNo) (b : Nat) :
    (s.breakInConnected n b).pending = s.pending ∧ (s.breakInConnected n b).now = s.now ∧
      (s.breakInConnected n b).fresh = s.fresh ∧ (s.breakInConnected n b).straps = s.straps ∧
      (s.breakInConnected n b).periods = s.periods ∧ (s.breakInConnected n b).scanner = s.scanner ∧
      (s.breakInConnected n b).collector = s.collector ∧ (s.breakInConnected n b).pool = s.pool ∧
      (s.breakInConnected n b).ring = s.ring ∧ (s.breakInConnected n b).power = s.power ∧
      (s.breakInConnected n b).tones = s.tones ∧ (s.breakInConnected n b).test = s.test ∧
      (s.breakInConnected n b).highway = s.highway ∧ (s.breakInConnected n b).sli = s.sli ∧
      (s.breakInConnected n b).mode = s.mode := by
  unfold State.breakInConnected
  try dsimp only
  (repeat' split) <;> simp

@[simp] theorem State.classifyOff_keeps (s : State) (n : LineNo) (t b : Nat) :
    (s.classifyOff n t b).pending = s.pending ∧ (s.classifyOff n t b).now = s.now ∧
      (s.classifyOff n t b).fresh = s.fresh ∧ (s.classifyOff n t b).straps = s.straps ∧
      (s.classifyOff n t b).periods = s.periods ∧ (s.classifyOff n t b).highway = s.highway ∧
      (s.classifyOff n t b).mode = s.mode := by
  unfold State.classifyOff
  try dsimp only
  (repeat' split) <;> simp

@[simp] theorem State.releaseLongBreak_keeps (s : State) (n : LineNo) (b : Nat) :
    (s.releaseLongBreak n b).pending = s.pending ∧ (s.releaseLongBreak n b).now = s.now ∧
      (s.releaseLongBreak n b).fresh = s.fresh ∧ (s.releaseLongBreak n b).straps = s.straps ∧
      (s.releaseLongBreak n b).periods = s.periods ∧ (s.releaseLongBreak n b).highway = s.highway ∧
      (s.releaseLongBreak n b).mode = s.mode := by
  unfold State.releaseLongBreak
  try dsimp only
  (repeat' split) <;> simp

@[simp] theorem State.recordOff_keeps (s : State) (n : LineNo) (t : Nat) :
    (s.recordOff n t).pending = s.pending ∧ (s.recordOff n t).now = s.now ∧
      (s.recordOff n t).fresh = s.fresh ∧ (s.recordOff n t).straps = s.straps ∧
      (s.recordOff n t).periods = s.periods ∧ (s.recordOff n t).lines = s.lines ∧
      (s.recordOff n t).collector = s.collector ∧ (s.recordOff n t).pool = s.pool ∧
      (s.recordOff n t).ring = s.ring ∧ (s.recordOff n t).power = s.power ∧
      (s.recordOff n t).tones = s.tones ∧ (s.recordOff n t).test = s.test ∧
      (s.recordOff n t).highway = s.highway ∧ (s.recordOff n t).sli = s.sli ∧ (s.recordOff n t).mode = s.mode := by
  unfold State.recordOff
  try dsimp only
  simp

@[simp] theorem State.offTransition_keeps (s : State) (n : LineNo) :
    (s.offTransition n).pending = s.pending ∧ (s.offTransition n).now = s.now ∧
      (s.offTransition n).fresh = s.fresh ∧ (s.offTransition n).straps = s.straps ∧
      (s.offTransition n).periods = s.periods := by
  unfold State.offTransition
  dsimp only
  (repeat' split) <;> simp

@[simp] theorem State.declareOff_keeps (s : State) (n : LineNo) :
    (s.declareOff n).pending = s.pending ∧ (s.declareOff n).now = s.now ∧
      (s.declareOff n).fresh = s.fresh ∧ (s.declareOff n).straps = s.straps ∧
      (s.declareOff n).periods = s.periods := by
  unfold State.declareOff
  try dsimp only
  (repeat' split) <;> simp

@[simp] theorem State.debounce_keeps (s : State) (n : LineNo) (h : Hook) :
    (s.debounce n h).pending = s.pending ∧ (s.debounce n h).now = s.now ∧
      (s.debounce n h).fresh = s.fresh ∧ (s.debounce n h).straps = s.straps ∧
      (s.debounce n h).periods = s.periods := by
  unfold State.debounce
  try dsimp only
  (repeat' split) <;> simp

@[simp] theorem State.beginInstant_keeps (s : State) :
    (s.beginInstant).pending = s.pending ∧ (s.beginInstant).now = s.now ∧
      (s.beginInstant).fresh = s.fresh ∧ (s.beginInstant).straps = s.straps ∧
      (s.beginInstant).periods = s.periods ∧ (s.beginInstant).lines = s.lines ∧
      (s.beginInstant).collector = s.collector ∧ (s.beginInstant).pool = s.pool ∧
      (s.beginInstant).ring = s.ring ∧ (s.beginInstant).power = s.power ∧ (s.beginInstant).tones = s.tones ∧
      (s.beginInstant).test = s.test ∧ (s.beginInstant).highway = s.highway ∧ (s.beginInstant).sli = s.sli ∧
      (s.beginInstant).mode = s.mode := by
  unfold State.beginInstant
  try dsimp only
  (repeat' split) <;> simp

@[simp] theorem State.sample_keeps (s : State) (n : LineNo) (h : Hook) :
    (s.sample n h).pending = s.pending ∧ (s.sample n h).now = s.now ∧ (s.sample n h).fresh = s.fresh ∧
      (s.sample n h).straps = s.straps ∧ (s.sample n h).periods = s.periods := by
  unfold State.sample
  dsimp only
  (repeat' split) <;> simp

@[simp] theorem State.energizeLine_keeps (s : State) (n : LineNo) :
    (s.energizeLine n).pending = s.pending ∧ (s.energizeLine n).now = s.now ∧
      (s.energizeLine n).fresh = s.fresh ∧ (s.energizeLine n).straps = s.straps ∧
      (s.energizeLine n).periods = s.periods ∧ (s.energizeLine n).collector = s.collector ∧
      (s.energizeLine n).pool = s.pool ∧ (s.energizeLine n).ring = s.ring ∧
      (s.energizeLine n).power = s.power ∧ (s.energizeLine n).tones = s.tones ∧
      (s.energizeLine n).test = s.test ∧ (s.energizeLine n).highway = s.highway ∧
      (s.energizeLine n).sli = s.sli ∧ (s.energizeLine n).mode = s.mode := by
  unfold State.energizeLine
  try dsimp only
  simp

@[simp] theorem State.forgetLine_keeps (s : State) (n : LineNo) :
    (s.forgetLine n).pending = s.pending ∧ (s.forgetLine n).now = s.now ∧
      (s.forgetLine n).fresh = s.fresh ∧ (s.forgetLine n).straps = s.straps ∧
      (s.forgetLine n).periods = s.periods ∧ (s.forgetLine n).lines = s.lines ∧
      (s.forgetLine n).collector = s.collector ∧ (s.forgetLine n).pool = s.pool ∧
      (s.forgetLine n).ring = s.ring ∧ (s.forgetLine n).power = s.power ∧ (s.forgetLine n).tones = s.tones ∧
      (s.forgetLine n).test = s.test ∧ (s.forgetLine n).highway = s.highway ∧ (s.forgetLine n).sli = s.sli ∧
      (s.forgetLine n).mode = s.mode := by
  unfold State.forgetLine
  try dsimp only
  simp

@[simp] theorem State.deenergizeLine_keeps (s : State) (n : LineNo) :
    (s.deenergizeLine n).pending = s.pending ∧ (s.deenergizeLine n).now = s.now ∧
      (s.deenergizeLine n).fresh = s.fresh ∧ (s.deenergizeLine n).straps = s.straps ∧
      (s.deenergizeLine n).periods = s.periods ∧ (s.deenergizeLine n).collector = s.collector ∧
      (s.deenergizeLine n).pool = s.pool ∧ (s.deenergizeLine n).ring = s.ring ∧
      (s.deenergizeLine n).power = s.power ∧ (s.deenergizeLine n).tones = s.tones ∧
      (s.deenergizeLine n).test = s.test ∧ (s.deenergizeLine n).highway = s.highway ∧
      (s.deenergizeLine n).sli = s.sli ∧ (s.deenergizeLine n).mode = s.mode := by
  unfold State.deenergizeLine
  try dsimp only
  simp

@[simp] theorem State.setEnergizeList_keeps (s : State) (l : List LineNo) :
    (s.setEnergizeList l).pending = s.pending ∧ (s.setEnergizeList l).now = s.now ∧
      (s.setEnergizeList l).fresh = s.fresh ∧ (s.setEnergizeList l).straps = s.straps ∧
      (s.setEnergizeList l).periods = s.periods ∧ (s.setEnergizeList l).lines = s.lines ∧
      (s.setEnergizeList l).collector = s.collector ∧ (s.setEnergizeList l).pool = s.pool ∧
      (s.setEnergizeList l).ring = s.ring ∧ (s.setEnergizeList l).power = s.power ∧
      (s.setEnergizeList l).tones = s.tones ∧ (s.setEnergizeList l).test = s.test ∧
      (s.setEnergizeList l).highway = s.highway ∧ (s.setEnergizeList l).sli = s.sli ∧
      (s.setEnergizeList l).mode = s.mode := by
  unfold State.setEnergizeList
  try dsimp only
  simp

@[simp] theorem State.joinEnergizeList_keeps (s : State) (n : LineNo) :
    (s.joinEnergizeList n).pending = s.pending ∧ (s.joinEnergizeList n).now = s.now ∧
      (s.joinEnergizeList n).fresh = s.fresh ∧ (s.joinEnergizeList n).straps = s.straps ∧
      (s.joinEnergizeList n).periods = s.periods ∧ (s.joinEnergizeList n).lines = s.lines ∧
      (s.joinEnergizeList n).collector = s.collector ∧ (s.joinEnergizeList n).pool = s.pool ∧
      (s.joinEnergizeList n).ring = s.ring ∧ (s.joinEnergizeList n).power = s.power ∧
      (s.joinEnergizeList n).tones = s.tones ∧ (s.joinEnergizeList n).test = s.test ∧
      (s.joinEnergizeList n).highway = s.highway ∧ (s.joinEnergizeList n).sli = s.sli ∧
      (s.joinEnergizeList n).mode = s.mode := by
  unfold State.joinEnergizeList
  try dsimp only
  simp

@[simp] theorem State.energizeGroup_keeps (s : State) :
    (s.energizeGroup).pending = s.pending ∧ (s.energizeGroup).now = s.now ∧
      (s.energizeGroup).fresh = s.fresh ∧ (s.energizeGroup).straps = s.straps ∧
      (s.energizeGroup).periods = s.periods ∧ (s.energizeGroup).collector = s.collector ∧
      (s.energizeGroup).pool = s.pool ∧ (s.energizeGroup).ring = s.ring ∧ (s.energizeGroup).power = s.power ∧
      (s.energizeGroup).tones = s.tones ∧ (s.energizeGroup).test = s.test ∧
      (s.energizeGroup).highway = s.highway ∧ (s.energizeGroup).sli = s.sli ∧ (s.energizeGroup).mode = s.mode := by
  unfold State.energizeGroup
  refine ⟨?_, ?_, ?_, ?_, ?_, ?_, ?_, ?_, ?_, ?_, ?_, ?_, ?_, ?_⟩ <;>
    exact (foldl_keeps _ _ (fun _ _ => by simp) _ _).trans (by simp)

@[simp] theorem State.advanceTone_keeps (s : State) (k : ToneKind) :
    (s.advanceTone k).pending = s.pending ∧ (s.advanceTone k).now = s.now ∧
      (s.advanceTone k).fresh = s.fresh ∧ (s.advanceTone k).straps = s.straps ∧
      (s.advanceTone k).periods = s.periods ∧ (s.advanceTone k).scanner = s.scanner ∧
      (s.advanceTone k).lines = s.lines ∧ (s.advanceTone k).collector = s.collector ∧
      (s.advanceTone k).pool = s.pool ∧ (s.advanceTone k).ring = s.ring ∧ (s.advanceTone k).power = s.power ∧
      (s.advanceTone k).test = s.test ∧ (s.advanceTone k).highway = s.highway ∧
      (s.advanceTone k).sli = s.sli ∧ (s.advanceTone k).mode = s.mode := by
  unfold State.advanceTone
  try dsimp only
  (repeat' split) <;> simp

@[simp] theorem State.startBurstAt_keeps (s : State) (p : PhaseNo) (pos : AlertPos) :
    (s.startBurstAt p pos).pending = s.pending ∧ (s.startBurstAt p pos).now = s.now ∧
      (s.startBurstAt p pos).fresh = s.fresh ∧ (s.startBurstAt p pos).straps = s.straps ∧
      (s.startBurstAt p pos).periods = s.periods ∧ (s.startBurstAt p pos).scanner = s.scanner ∧
      (s.startBurstAt p pos).lines = s.lines ∧ (s.startBurstAt p pos).collector = s.collector ∧
      (s.startBurstAt p pos).pool = s.pool ∧ (s.startBurstAt p pos).power = s.power ∧
      (s.startBurstAt p pos).tones = s.tones ∧ (s.startBurstAt p pos).test = s.test ∧
      (s.startBurstAt p pos).highway = s.highway ∧ (s.startBurstAt p pos).sli = s.sli ∧
      (s.startBurstAt p pos).mode = s.mode := by
  unfold State.startBurstAt
  try dsimp only
  (repeat' split) <;> simp

@[simp] theorem State.startWindow_keeps (s : State) (p : PhaseNo) :
    (s.startWindow p).pending = s.pending ∧ (s.startWindow p).now = s.now ∧
      (s.startWindow p).fresh = s.fresh ∧ (s.startWindow p).straps = s.straps ∧
      (s.startWindow p).periods = s.periods ∧ (s.startWindow p).scanner = s.scanner ∧
      (s.startWindow p).lines = s.lines ∧ (s.startWindow p).collector = s.collector ∧
      (s.startWindow p).pool = s.pool ∧ (s.startWindow p).power = s.power ∧
      (s.startWindow p).tones = s.tones ∧ (s.startWindow p).test = s.test ∧
      (s.startWindow p).highway = s.highway ∧ (s.startWindow p).sli = s.sli ∧ (s.startWindow p).mode = s.mode := by
  unfold State.startWindow
  split
  · simp
  · refine ⟨?_, ?_, ?_, ?_, ?_, ?_, ?_, ?_, ?_, ?_, ?_, ?_, ?_, ?_, ?_⟩ <;>
      exact (foldl_keeps _ _ (fun _ _ => by simp) _ _).trans (by simp)

@[simp] theorem State.advanceBurst_keeps (s : State) (pos : AlertPos) :
    (s.advanceBurst pos).pending = s.pending ∧ (s.advanceBurst pos).now = s.now ∧
      (s.advanceBurst pos).fresh = s.fresh ∧ (s.advanceBurst pos).straps = s.straps ∧
      (s.advanceBurst pos).periods = s.periods ∧ (s.advanceBurst pos).scanner = s.scanner ∧
      (s.advanceBurst pos).lines = s.lines ∧ (s.advanceBurst pos).collector = s.collector ∧
      (s.advanceBurst pos).pool = s.pool ∧ (s.advanceBurst pos).power = s.power ∧
      (s.advanceBurst pos).tones = s.tones ∧ (s.advanceBurst pos).test = s.test ∧
      (s.advanceBurst pos).highway = s.highway ∧ (s.advanceBurst pos).sli = s.sli ∧
      (s.advanceBurst pos).mode = s.mode := by
  unfold State.advanceBurst
  try dsimp only
  simp

@[simp] theorem State.storeCadence_keeps (s : State) (e : CadenceNo) (l : List Nat) :
    (s.storeCadence e l).pending = s.pending ∧ (s.storeCadence e l).now = s.now ∧
      (s.storeCadence e l).fresh = s.fresh ∧ (s.storeCadence e l).straps = s.straps ∧
      (s.storeCadence e l).periods = s.periods ∧ (s.storeCadence e l).scanner = s.scanner ∧
      (s.storeCadence e l).lines = s.lines ∧ (s.storeCadence e l).collector = s.collector ∧
      (s.storeCadence e l).pool = s.pool ∧ (s.storeCadence e l).ring = s.ring ∧
      (s.storeCadence e l).power = s.power ∧ (s.storeCadence e l).test = s.test ∧
      (s.storeCadence e l).highway = s.highway ∧ (s.storeCadence e l).sli = s.sli ∧
      (s.storeCadence e l).mode = s.mode := by
  unfold State.storeCadence
  try dsimp only
  simp

@[simp] theorem State.modTest_keeps (s : State) (f : TestContext → TestContext) :
    (s.modTest f).pending = s.pending ∧ (s.modTest f).now = s.now ∧ (s.modTest f).fresh = s.fresh ∧
      (s.modTest f).straps = s.straps ∧ (s.modTest f).periods = s.periods ∧
      (s.modTest f).scanner = s.scanner ∧ (s.modTest f).lines = s.lines ∧
      (s.modTest f).collector = s.collector ∧ (s.modTest f).pool = s.pool ∧ (s.modTest f).ring = s.ring ∧
      (s.modTest f).power = s.power ∧ (s.modTest f).tones = s.tones ∧ (s.modTest f).highway = s.highway ∧
      (s.modTest f).sli = s.sli ∧ (s.modTest f).mode = s.mode := by
  unfold State.modTest
  try dsimp only
  simp

@[simp] theorem State.injectBit_keeps (s : State) :
    (s.injectBit).pending = s.pending ∧ (s.injectBit).now = s.now ∧ (s.injectBit).fresh = s.fresh ∧
      (s.injectBit).straps = s.straps ∧ (s.injectBit).periods = s.periods ∧
      (s.injectBit).scanner = s.scanner ∧ (s.injectBit).lines = s.lines ∧
      (s.injectBit).collector = s.collector ∧ (s.injectBit).pool = s.pool ∧ (s.injectBit).ring = s.ring ∧
      (s.injectBit).power = s.power ∧ (s.injectBit).tones = s.tones ∧ (s.injectBit).highway = s.highway ∧
      (s.injectBit).sli = s.sli ∧ (s.injectBit).mode = s.mode := by
  unfold State.injectBit
  try dsimp only
  simp

@[simp] theorem State.endTest_keeps (s : State) :
    (s.endTest).pending = s.pending ∧ (s.endTest).now = s.now ∧ (s.endTest).fresh = s.fresh ∧
      (s.endTest).straps = s.straps ∧ (s.endTest).periods = s.periods ∧ (s.endTest).scanner = s.scanner ∧
      (s.endTest).collector = s.collector ∧ (s.endTest).ring = s.ring ∧ (s.endTest).power = s.power ∧
      (s.endTest).tones = s.tones ∧ (s.endTest).highway = s.highway ∧ (s.endTest).sli = s.sli ∧
      (s.endTest).mode = s.mode := by
  unfold State.endTest
  dsimp only
  (repeat' split) <;> simp

@[simp] theorem State.pulse_keeps (s : State) :
    (s.pulse).pending = s.pending ∧ (s.pulse).now = s.now ∧ (s.pulse).fresh = s.fresh ∧
      (s.pulse).straps = s.straps ∧ (s.pulse).periods = s.periods ∧ (s.pulse).scanner = s.scanner ∧
      (s.pulse).lines = s.lines ∧ (s.pulse).collector = s.collector ∧ (s.pulse).pool = s.pool ∧
      (s.pulse).ring = s.ring ∧ (s.pulse).power = s.power ∧ (s.pulse).tones = s.tones ∧
      (s.pulse).test = s.test ∧ (s.pulse).sli = s.sli ∧ (s.pulse).mode = s.mode := by
  unfold State.pulse
  try dsimp only
  (repeat' split) <;> simp

@[simp] theorem State.loss_keeps (s : State) :
    (s.loss).pending = s.pending ∧ (s.loss).now = s.now ∧ (s.loss).fresh = s.fresh ∧
      (s.loss).straps = s.straps ∧ (s.loss).periods = s.periods ∧ (s.loss).scanner = s.scanner ∧
      (s.loss).lines = s.lines ∧ (s.loss).collector = s.collector ∧ (s.loss).pool = s.pool ∧
      (s.loss).ring = s.ring ∧ (s.loss).power = s.power ∧ (s.loss).tones = s.tones ∧ (s.loss).test = s.test ∧
      (s.loss).mode = s.mode := by
  unfold State.loss
  try dsimp only
  (repeat' split) <;> simp

@[simp] theorem State.restoreBearer_keeps (s : State) (b : BearerNo) :
    (s.restoreBearer b).pending = s.pending ∧ (s.restoreBearer b).now = s.now ∧
      (s.restoreBearer b).fresh = s.fresh ∧ (s.restoreBearer b).straps = s.straps ∧
      (s.restoreBearer b).periods = s.periods ∧ (s.restoreBearer b).scanner = s.scanner ∧
      (s.restoreBearer b).collector = s.collector ∧ (s.restoreBearer b).ring = s.ring ∧
      (s.restoreBearer b).power = s.power ∧ (s.restoreBearer b).tones = s.tones ∧
      (s.restoreBearer b).test = s.test ∧ (s.restoreBearer b).highway = s.highway ∧
      (s.restoreBearer b).sli = s.sli ∧ (s.restoreBearer b).mode = s.mode := by
  unfold State.restoreBearer
  try dsimp only
  (repeat' split) <;> simp

@[simp] theorem State.restoreHighway_keeps (s : State) :
    (s.restoreHighway).pending = s.pending ∧ (s.restoreHighway).now = s.now ∧
      (s.restoreHighway).fresh = s.fresh ∧ (s.restoreHighway).straps = s.straps ∧
      (s.restoreHighway).periods = s.periods ∧ (s.restoreHighway).scanner = s.scanner ∧
      (s.restoreHighway).collector = s.collector ∧ (s.restoreHighway).ring = s.ring ∧
      (s.restoreHighway).power = s.power ∧ (s.restoreHighway).tones = s.tones ∧
      (s.restoreHighway).test = s.test ∧ (s.restoreHighway).mode = s.mode := by
  unfold State.restoreHighway
  split
  · simp
  · simp
  · simp
  · refine ⟨?_, ?_, ?_, ?_, ?_, ?_, ?_, ?_, ?_, ?_, ?_, ?_⟩ <;>
      exact (foldl_keeps _ _ (fun _ _ => by simp) _ _).trans (by simp)

@[simp] theorem State.downBearer_keeps (s : State) (b : BearerNo) :
    (s.downBearer b).pending = s.pending ∧ (s.downBearer b).now = s.now ∧
      (s.downBearer b).fresh = s.fresh ∧ (s.downBearer b).straps = s.straps ∧
      (s.downBearer b).periods = s.periods ∧ (s.downBearer b).scanner = s.scanner ∧
      (s.downBearer b).lines = s.lines ∧ (s.downBearer b).collector = s.collector ∧
      (s.downBearer b).ring = s.ring ∧ (s.downBearer b).power = s.power ∧ (s.downBearer b).tones = s.tones ∧
      (s.downBearer b).test = s.test ∧ (s.downBearer b).highway = s.highway ∧ (s.downBearer b).sli = s.sli ∧
      (s.downBearer b).mode = s.mode := by
  unfold State.downBearer
  try dsimp only
  (repeat' split) <;> simp

@[simp] theorem State.downLine_keeps (s : State) (n : LineNo) :
    (s.downLine n).pending = s.pending ∧ (s.downLine n).now = s.now ∧ (s.downLine n).fresh = s.fresh ∧
      (s.downLine n).straps = s.straps ∧ (s.downLine n).periods = s.periods ∧
      (s.downLine n).scanner = s.scanner ∧ (s.downLine n).collector = s.collector ∧
      (s.downLine n).pool = s.pool ∧ (s.downLine n).ring = s.ring ∧ (s.downLine n).power = s.power ∧
      (s.downLine n).test = s.test ∧ (s.downLine n).highway = s.highway ∧ (s.downLine n).sli = s.sli ∧
      (s.downLine n).mode = s.mode := by
  unfold State.downLine
  try dsimp only
  (repeat' split) <;> simp

@[simp] theorem State.downAlert_keeps (s : State) (p : AlertPos) :
    (s.downAlert p).pending = s.pending ∧ (s.downAlert p).now = s.now ∧ (s.downAlert p).fresh = s.fresh ∧
      (s.downAlert p).straps = s.straps ∧ (s.downAlert p).periods = s.periods ∧
      (s.downAlert p).scanner = s.scanner ∧ (s.downAlert p).collector = s.collector ∧
      (s.downAlert p).pool = s.pool ∧ (s.downAlert p).test = s.test ∧ (s.downAlert p).highway = s.highway ∧
      (s.downAlert p).sli = s.sli ∧ (s.downAlert p).mode = s.mode := by
  unfold State.downAlert
  try dsimp only
  (repeat' split) <;> simp

/-- What going over the alerts, the lines and the bearers as the highway goes DOWN leaves alone. -/
@[simp] theorem State.downAlerts_keep (s : State) :
    (allPositions.foldl State.downAlert s).pending = s.pending ∧
      (allPositions.foldl State.downAlert s).now = s.now ∧
      (allPositions.foldl State.downAlert s).fresh = s.fresh ∧
      (allPositions.foldl State.downAlert s).straps = s.straps ∧
      (allPositions.foldl State.downAlert s).periods = s.periods ∧
      (allPositions.foldl State.downAlert s).scanner = s.scanner ∧
      (allPositions.foldl State.downAlert s).collector = s.collector ∧
      (allPositions.foldl State.downAlert s).pool = s.pool ∧
      (allPositions.foldl State.downAlert s).test = s.test ∧
      (allPositions.foldl State.downAlert s).highway = s.highway ∧
      (allPositions.foldl State.downAlert s).sli = s.sli ∧
      (allPositions.foldl State.downAlert s).mode = s.mode := by
  refine ⟨?_, ?_, ?_, ?_, ?_, ?_, ?_, ?_, ?_, ?_, ?_, ?_⟩ <;> exact foldl_keeps _ _ (fun _ _ => by simp) _ _

@[simp] theorem State.downLines_keep (s : State) :
    (allLines.foldl State.downLine s).pending = s.pending ∧ (allLines.foldl State.downLine s).now = s.now ∧
      (allLines.foldl State.downLine s).fresh = s.fresh ∧
      (allLines.foldl State.downLine s).straps = s.straps ∧
      (allLines.foldl State.downLine s).periods = s.periods ∧
      (allLines.foldl State.downLine s).scanner = s.scanner ∧
      (allLines.foldl State.downLine s).collector = s.collector ∧
      (allLines.foldl State.downLine s).pool = s.pool ∧ (allLines.foldl State.downLine s).ring = s.ring ∧
      (allLines.foldl State.downLine s).power = s.power ∧ (allLines.foldl State.downLine s).test = s.test ∧
      (allLines.foldl State.downLine s).highway = s.highway ∧ (allLines.foldl State.downLine s).sli = s.sli ∧
      (allLines.foldl State.downLine s).mode = s.mode := by
  refine ⟨?_, ?_, ?_, ?_, ?_, ?_, ?_, ?_, ?_, ?_, ?_, ?_, ?_, ?_⟩ <;> exact foldl_keeps _ _ (fun _ _ => by simp) _ _

@[simp] theorem State.downBearers_keep (s : State) :
    (allBearers.foldl State.downBearer s).pending = s.pending ∧
      (allBearers.foldl State.downBearer s).now = s.now ∧
      (allBearers.foldl State.downBearer s).fresh = s.fresh ∧
      (allBearers.foldl State.downBearer s).straps = s.straps ∧
      (allBearers.foldl State.downBearer s).periods = s.periods ∧
      (allBearers.foldl State.downBearer s).scanner = s.scanner ∧
      (allBearers.foldl State.downBearer s).lines = s.lines ∧
      (allBearers.foldl State.downBearer s).collector = s.collector ∧
      (allBearers.foldl State.downBearer s).ring = s.ring ∧
      (allBearers.foldl State.downBearer s).power = s.power ∧
      (allBearers.foldl State.downBearer s).tones = s.tones ∧
      (allBearers.foldl State.downBearer s).test = s.test ∧
      (allBearers.foldl State.downBearer s).highway = s.highway ∧
      (allBearers.foldl State.downBearer s).sli = s.sli ∧ (allBearers.foldl State.downBearer s).mode = s.mode := by
  refine ⟨?_, ?_, ?_, ?_, ?_, ?_, ?_, ?_, ?_, ?_, ?_, ?_, ?_, ?_, ?_⟩ <;> exact foldl_keeps _ _ (fun _ _ => by simp) _ _

@[simp] theorem State.takeDown_keeps (s : State) :
    (s.takeDown).pending = s.pending ∧ (s.takeDown).now = s.now ∧ (s.takeDown).fresh = s.fresh ∧
      (s.takeDown).straps = s.straps ∧ (s.takeDown).periods = s.periods ∧ (s.takeDown).scanner = s.scanner ∧
      (s.takeDown).collector = s.collector ∧ (s.takeDown).mode = s.mode := by
  unfold State.takeDown
  try dsimp only
  simp

@[simp] theorem State.graceExpires_keeps (s : State) :
    (s.graceExpires).pending = s.pending ∧ (s.graceExpires).now = s.now ∧
      (s.graceExpires).fresh = s.fresh ∧ (s.graceExpires).straps = s.straps ∧
      (s.graceExpires).periods = s.periods ∧ (s.graceExpires).scanner = s.scanner ∧
      (s.graceExpires).mode = s.mode := by
  unfold State.graceExpires State.accounted
  split <;> simp

@[simp] theorem State.countFrame_keeps (s : State) :
    (s.countFrame).pending = s.pending ∧ (s.countFrame).now = s.now ∧ (s.countFrame).fresh = s.fresh ∧
      (s.countFrame).straps = s.straps ∧ (s.countFrame).periods = s.periods ∧
      (s.countFrame).scanner = s.scanner ∧ (s.countFrame).lines = s.lines ∧
      (s.countFrame).collector = s.collector ∧ (s.countFrame).pool = s.pool ∧ (s.countFrame).ring = s.ring ∧
      (s.countFrame).power = s.power ∧ (s.countFrame).tones = s.tones ∧ (s.countFrame).test = s.test ∧
      (s.countFrame).highway = s.highway ∧ (s.countFrame).mode = s.mode := by
  unfold State.countFrame
  dsimp only
  split <;> simp

@[simp] theorem State.supervisionExpires_keeps (s : State) :
    (s.supervisionExpires).pending = s.pending ∧ (s.supervisionExpires).now = s.now ∧
      (s.supervisionExpires).fresh = s.fresh ∧ (s.supervisionExpires).straps = s.straps ∧
      (s.supervisionExpires).periods = s.periods ∧ (s.supervisionExpires).scanner = s.scanner ∧
      (s.supervisionExpires).collector = s.collector ∧ (s.supervisionExpires).ring = s.ring ∧
      (s.supervisionExpires).power = s.power ∧ (s.supervisionExpires).test = s.test ∧
      (s.supervisionExpires).highway = s.highway ∧ (s.supervisionExpires).mode = s.mode := by
  unfold State.supervisionExpires
  try dsimp only
  (repeat' split) <;> simp

@[simp] theorem State.dropRequest_keeps (s : State) :
    (s.dropRequest).pending = s.pending ∧ (s.dropRequest).now = s.now ∧ (s.dropRequest).fresh = s.fresh ∧
      (s.dropRequest).straps = s.straps ∧ (s.dropRequest).periods = s.periods ∧
      (s.dropRequest).scanner = s.scanner ∧ (s.dropRequest).lines = s.lines ∧
      (s.dropRequest).collector = s.collector ∧ (s.dropRequest).pool = s.pool ∧
      (s.dropRequest).ring = s.ring ∧ (s.dropRequest).power = s.power ∧ (s.dropRequest).tones = s.tones ∧
      (s.dropRequest).test = s.test ∧ (s.dropRequest).highway = s.highway ∧ (s.dropRequest).mode = s.mode := by
  unfold State.dropRequest
  try dsimp only
  simp

@[simp] theorem State.queueReply_keeps (s : State) (f : Frame) :
    (s.queueReply f).pending = s.pending ∧ (s.queueReply f).now = s.now ∧
      (s.queueReply f).fresh = s.fresh ∧ (s.queueReply f).straps = s.straps ∧
      (s.queueReply f).periods = s.periods ∧ (s.queueReply f).scanner = s.scanner ∧
      (s.queueReply f).lines = s.lines ∧ (s.queueReply f).collector = s.collector ∧
      (s.queueReply f).pool = s.pool ∧ (s.queueReply f).ring = s.ring ∧ (s.queueReply f).power = s.power ∧
      (s.queueReply f).tones = s.tones ∧ (s.queueReply f).test = s.test ∧
      (s.queueReply f).highway = s.highway ∧ (s.queueReply f).mode = s.mode := by
  unfold State.queueReply
  try dsimp only
  simp

@[simp] theorem State.meetOff_keeps (s : State) (n : LineNo) :
    (s.meetOff n).pending = s.pending ∧ (s.meetOff n).now = s.now ∧ (s.meetOff n).straps = s.straps ∧
      (s.meetOff n).periods = s.periods ∧ (s.meetOff n).pool = s.pool ∧ (s.meetOff n).ring = s.ring ∧
      (s.meetOff n).test = s.test ∧ (s.meetOff n).highway = s.highway ∧ (s.meetOff n).mode = s.mode := by
  unfold State.meetOff
  try dsimp only
  (repeat' split) <;> simp

@[simp] theorem State.meetOffs_keeps (s : State) :
    (s.meetOffs).pending = s.pending ∧ (s.meetOffs).now = s.now ∧ (s.meetOffs).straps = s.straps ∧
      (s.meetOffs).periods = s.periods ∧ (s.meetOffs).pool = s.pool ∧ (s.meetOffs).ring = s.ring ∧
      (s.meetOffs).test = s.test ∧ (s.meetOffs).highway = s.highway ∧ (s.meetOffs).mode = s.mode := by
  unfold State.meetOffs
  refine ⟨?_, ?_, ?_, ?_, ?_, ?_, ?_, ?_, ?_⟩ <;>
    exact (foldl_keeps _ _ (fun _ _ => by simp) _ _).trans (by simp)

@[simp] theorem State.frameArrives_keeps (s : State) :
    (s.frameArrives).pending = s.pending ∧ (s.frameArrives).now = s.now ∧
      (s.frameArrives).straps = s.straps ∧ (s.frameArrives).periods = s.periods ∧
      (s.frameArrives).pool = s.pool ∧ (s.frameArrives).test = s.test := by
  unfold State.frameArrives
  try dsimp only
  (repeat' split) <;> simp

@[simp] theorem State.frameTaken_keeps (s : State) :
    (s.frameTaken).pending = s.pending ∧ (s.frameTaken).now = s.now ∧ (s.frameTaken).fresh = s.fresh ∧
      (s.frameTaken).straps = s.straps ∧ (s.frameTaken).periods = s.periods ∧
      (s.frameTaken).scanner = s.scanner ∧ (s.frameTaken).lines = s.lines ∧
      (s.frameTaken).collector = s.collector ∧ (s.frameTaken).pool = s.pool ∧ (s.frameTaken).ring = s.ring ∧
      (s.frameTaken).power = s.power ∧ (s.frameTaken).tones = s.tones ∧ (s.frameTaken).test = s.test ∧
      (s.frameTaken).highway = s.highway ∧ (s.frameTaken).mode = s.mode := by
  unfold State.frameTaken
  try dsimp only
  simp

@[simp] theorem State.send_keeps (s : State) (f : Frame) :
    (s.send f).pending = s.pending ∧ (s.send f).now = s.now ∧ (s.send f).fresh = s.fresh ∧
      (s.send f).straps = s.straps ∧ (s.send f).periods = s.periods ∧ (s.send f).scanner = s.scanner ∧
      (s.send f).lines = s.lines ∧ (s.send f).collector = s.collector ∧ (s.send f).pool = s.pool ∧
      (s.send f).ring = s.ring ∧ (s.send f).power = s.power ∧ (s.send f).tones = s.tones ∧
      (s.send f).test = s.test ∧ (s.send f).highway = s.highway ∧ (s.send f).mode = s.mode := by
  unfold State.send
  try dsimp only
  simp

@[simp] theorem State.beginReply_keeps (s : State) :
    (s.beginReply).pending = s.pending ∧ (s.beginReply).now = s.now ∧ (s.beginReply).fresh = s.fresh ∧
      (s.beginReply).straps = s.straps ∧ (s.beginReply).periods = s.periods ∧
      (s.beginReply).scanner = s.scanner ∧ (s.beginReply).lines = s.lines ∧
      (s.beginReply).collector = s.collector ∧ (s.beginReply).pool = s.pool ∧ (s.beginReply).ring = s.ring ∧
      (s.beginReply).power = s.power ∧ (s.beginReply).tones = s.tones ∧ (s.beginReply).test = s.test ∧
      (s.beginReply).highway = s.highway ∧ (s.beginReply).mode = s.mode := by
  unfold State.beginReply
  try dsimp only
  (repeat' split) <;> simp

@[simp] theorem State.beginPartReport_keeps (s : State) :
    (s.beginPartReport).pending = s.pending ∧ (s.beginPartReport).now = s.now ∧
      (s.beginPartReport).fresh = s.fresh ∧ (s.beginPartReport).straps = s.straps ∧
      (s.beginPartReport).periods = s.periods ∧ (s.beginPartReport).scanner = s.scanner ∧
      (s.beginPartReport).lines = s.lines ∧ (s.beginPartReport).collector = s.collector ∧
      (s.beginPartReport).pool = s.pool ∧ (s.beginPartReport).ring = s.ring ∧
      (s.beginPartReport).power = s.power ∧ (s.beginPartReport).tones = s.tones ∧
      (s.beginPartReport).test = s.test ∧ (s.beginPartReport).highway = s.highway ∧
      (s.beginPartReport).mode = s.mode := by
  unfold State.beginPartReport
  try dsimp only
  simp

@[simp] theorem State.freeAlert_keeps (s : State) (p : AlertPos) :
    (s.freeAlert p).pending = s.pending ∧ (s.freeAlert p).now = s.now ∧ (s.freeAlert p).fresh = s.fresh ∧
      (s.freeAlert p).straps = s.straps ∧ (s.freeAlert p).periods = s.periods ∧
      (s.freeAlert p).scanner = s.scanner ∧ (s.freeAlert p).lines = s.lines ∧
      (s.freeAlert p).collector = s.collector ∧ (s.freeAlert p).pool = s.pool ∧
      (s.freeAlert p).power = s.power ∧ (s.freeAlert p).tones = s.tones ∧ (s.freeAlert p).test = s.test ∧
      (s.freeAlert p).highway = s.highway ∧ (s.freeAlert p).sli = s.sli ∧ (s.freeAlert p).mode = s.mode := by
  unfold State.freeAlert
  try dsimp only
  simp

@[simp] theorem State.beginAlertReport_keeps (s : State) (p : AlertPos) :
    (s.beginAlertReport p).pending = s.pending ∧ (s.beginAlertReport p).now = s.now ∧
      (s.beginAlertReport p).fresh = s.fresh ∧ (s.beginAlertReport p).straps = s.straps ∧
      (s.beginAlertReport p).periods = s.periods ∧ (s.beginAlertReport p).scanner = s.scanner ∧
      (s.beginAlertReport p).lines = s.lines ∧ (s.beginAlertReport p).collector = s.collector ∧
      (s.beginAlertReport p).pool = s.pool ∧ (s.beginAlertReport p).power = s.power ∧
      (s.beginAlertReport p).tones = s.tones ∧ (s.beginAlertReport p).test = s.test ∧
      (s.beginAlertReport p).highway = s.highway ∧ (s.beginAlertReport p).mode = s.mode := by
  unfold State.beginAlertReport
  try dsimp only
  (repeat' split) <;> simp

@[simp] theorem State.beginBearerReport_keeps (s : State) (b : BearerNo) :
    (s.beginBearerReport b).pending = s.pending ∧ (s.beginBearerReport b).now = s.now ∧
      (s.beginBearerReport b).fresh = s.fresh ∧ (s.beginBearerReport b).straps = s.straps ∧
      (s.beginBearerReport b).periods = s.periods ∧ (s.beginBearerReport b).scanner = s.scanner ∧
      (s.beginBearerReport b).lines = s.lines ∧ (s.beginBearerReport b).collector = s.collector ∧
      (s.beginBearerReport b).ring = s.ring ∧ (s.beginBearerReport b).power = s.power ∧
      (s.beginBearerReport b).tones = s.tones ∧ (s.beginBearerReport b).test = s.test ∧
      (s.beginBearerReport b).highway = s.highway ∧ (s.beginBearerReport b).mode = s.mode := by
  unfold State.beginBearerReport
  try dsimp only
  simp

@[simp] theorem State.beginLineReport_keeps (s : State) (n : LineNo) :
    (s.beginLineReport n).pending = s.pending ∧ (s.beginLineReport n).now = s.now ∧
      (s.beginLineReport n).fresh = s.fresh ∧ (s.beginLineReport n).straps = s.straps ∧
      (s.beginLineReport n).periods = s.periods ∧ (s.beginLineReport n).scanner = s.scanner ∧
      (s.beginLineReport n).collector = s.collector ∧ (s.beginLineReport n).pool = s.pool ∧
      (s.beginLineReport n).ring = s.ring ∧ (s.beginLineReport n).power = s.power ∧
      (s.beginLineReport n).tones = s.tones ∧ (s.beginLineReport n).test = s.test ∧
      (s.beginLineReport n).highway = s.highway ∧ (s.beginLineReport n).mode = s.mode := by
  unfold State.beginLineReport
  try dsimp only
  simp

@[simp] theorem State.begin_keeps (s : State) (c : Option Choice) :
    (s.begin c).pending = s.pending ∧ (s.begin c).now = s.now ∧ (s.begin c).fresh = s.fresh ∧
      (s.begin c).straps = s.straps ∧ (s.begin c).periods = s.periods ∧ (s.begin c).scanner = s.scanner ∧
      (s.begin c).collector = s.collector ∧ (s.begin c).power = s.power ∧ (s.begin c).tones = s.tones ∧
      (s.begin c).test = s.test ∧ (s.begin c).highway = s.highway ∧ (s.begin c).mode = s.mode := by
  unfold State.begin
  try dsimp only
  (repeat' split) <;> simp

@[simp] theorem State.endFrame_keeps (s : State) :
    (s.endFrame).pending = s.pending ∧ (s.endFrame).now = s.now ∧ (s.endFrame).fresh = s.fresh ∧
      (s.endFrame).straps = s.straps ∧ (s.endFrame).periods = s.periods ∧ (s.endFrame).scanner = s.scanner ∧
      (s.endFrame).collector = s.collector ∧ (s.endFrame).power = s.power ∧ (s.endFrame).tones = s.tones ∧
      (s.endFrame).test = s.test ∧ (s.endFrame).highway = s.highway ∧ (s.endFrame).mode = s.mode := by
  unfold State.endFrame
  try dsimp only
  (repeat' split) <;> simp

end Sys2Proof.Machine
end

