-- ==== Sys2Proof/Laws/Holds.lean ====
section
/-! SUPPORT. What each shared operation leaves alone inside a block that it may change: the ring capacity and the ring
cycle clock, the budget, the numbering plan, the cadence table, the parts
of the SLI and what LINE_CONFIG sets of a line. -/

namespace Sys2Proof.Machine

/-- R41: the five fields of a line record that LINE_CONFIG sets. -/
def LineRecord.settings (r : LineRecord) : Signalling × Nat × Option (Fin 32) × Ceiling × Bool :=
  (r.signalling, r.ringerLoad, r.alertGroup, r.ceiling, r.restricted)

@[simp] theorem LineRecord.settings_eta (r : LineRecord) :
    (r.signalling, r.ringerLoad, r.alertGroup, r.ceiling, r.restricted) = r.settings := by
  simp only [LineRecord.settings]

@[simp] theorem LineRecord.settings_mk (c : CallState) (f : Feed) (g : Signalling) (l : Nat) (a : Option (Fin 32))
    (u : Ceiling) (x : Bool) (k : BitVec 8) (d : List Digit) (p : Option PlanMatch) (b : Option BearerNo)
    (e : Option Nat) (r : Option ReceiverNo) (t : Option ToneKind) (h : Nat) (v : List LineEvent)
    (w : Option StateTimer) : (LineRecord.mk c f g l a u x k d p b e r t h v w).settings = (g, l, a, u, x) := by
  simp only [LineRecord.settings]

@[simp] theorem LineRecord.settings_idled (r : LineRecord) : r.idled.settings = r.settings := by
  simp only [LineRecord.settings, LineRecord.idled]

/-- The settings of every line. -/
def settingsOf (lines : Vector LineRecord 24) : Vector (Signalling × Nat × Option (Fin 32) × Ceiling × Bool) 24 :=
  lines.map LineRecord.settings

/-- Equal settings of every line, read at one. -/
theorem settings_line {s t : State} (h : settingsOf t.lines = settingsOf s.lines) (n : LineNo) :
    (t.line n).settings = (s.line n).settings := by
  have e := congrArg (fun v => v[n]) h
  simpa [settingsOf, State.line] using e

/-- A change of a line record that keeps the settings. -/
@[simp] theorem State.settings_modLine (s : State) (n : LineNo) (f : LineRecord → LineRecord)
    (h : ∀ r, (f r).settings = r.settings) : settingsOf (s.modLine n f).lines = settingsOf s.lines := by
  apply Vector.ext
  intro i hi
  simp only [settingsOf, State.modLine, Vector.getElem_map, Vector.getElem_set]
  split
  · rename_i e
    subst e
    exact h _
  · rfl

@[simp] theorem State.addLineEvent_settings (s : State) (n : LineNo) (k : LineEvent) :
    settingsOf (s.addLineEvent n k).lines = settingsOf s.lines :=
  State.settings_modLine s n _ fun _ => rfl

@[simp] theorem State.startTimer_settings (s : State) (n : LineNo) (k : TimerKind) (ms : Nat) :
    settingsOf (s.startTimer n k ms).lines = settingsOf s.lines :=
  State.settings_modLine s n _ fun _ => rfl

@[simp] theorem State.stopTimer_settings (s : State) (n : LineNo) :
    settingsOf (s.stopTimer n).lines = settingsOf s.lines :=
  State.settings_modLine s n _ fun _ => rfl

@[simp] theorem Tones.setSource_cadences (t : Tones) (k : ToneKind) (p : Option TonePosition) :
    (t.setSource k p).cadences = t.cadences := by
  cases k <;> rfl

@[simp] theorem State.leaveSource_holds (s : State) (k : ToneKind) :
    (s.leaveSource k).tones.cadences = s.tones.cadences := by
  unfold State.leaveSource
  try dsimp only
  (repeat' split) <;> simp

@[simp] theorem State.joinSource_holds (s : State) (k : ToneKind) :
    (s.joinSource k).tones.cadences = s.tones.cadences := by
  unfold State.joinSource
  try dsimp only
  (repeat' split) <;> simp

@[simp] theorem State.setTone_holds (s : State) (n : LineNo) (t : Option ToneKind) :
    (s.setTone n t).tones.cadences = s.tones.cadences ∧
      settingsOf (s.setTone n t).lines = settingsOf s.lines := by
  unfold State.setTone
  try dsimp only
  (repeat' split) <;> simp

@[simp] theorem State.examine_holds (s : State) :
    (s.examine).power.budget = s.power.budget ∧ (s.examine).sli.hunter = s.sli.hunter ∧
      (s.examine).sli.lastOctet = s.sli.lastOctet ∧ (s.examine).sli.replies = s.sli.replies ∧
      (s.examine).sli.sending = s.sli.sending ∧ (s.examine).sli.reportPosition = s.sli.reportPosition ∧
      (s.examine).sli.overrun = s.sli.overrun ∧ (s.examine).sli.controller = s.sli.controller ∧
      (s.examine).sli.supervision = s.sli.supervision := by
  unfold State.examine
  dsimp only
  (repeat' split) <;> simp

@[simp] theorem State.joinRoll_holds (s : State) (n : LineNo) (c : Feed) :
    (s.joinRoll n c).power.budget = s.power.budget ∧ settingsOf (s.joinRoll n c).lines = settingsOf s.lines := by
  unfold State.joinRoll
  try dsimp only
  simp

@[simp] theorem State.leaveRoll_holds (s : State) (n : LineNo) :
    (s.leaveRoll n).power.budget = s.power.budget ∧ settingsOf (s.leaveRoll n).lines = settingsOf s.lines := by
  unfold State.leaveRoll
  try dsimp only
  simp

@[simp] theorem State.giveDialTone_holds (s : State) (n : LineNo) :
    (s.giveDialTone n).tones.cadences = s.tones.cadences ∧
      settingsOf (s.giveDialTone n).lines = settingsOf s.lines := by
  unfold State.giveDialTone
  try dsimp only
  simp

@[simp] theorem State.attachReceiver_holds (s : State) (r : ReceiverNo) (n : LineNo) :
    (s.attachReceiver r n).collector.plan = s.collector.plan ∧
      settingsOf (s.attachReceiver r n).lines = settingsOf s.lines := by
  unfold State.attachReceiver
  try dsimp only
  simp

@[simp] theorem State.enterDial_holds (s : State) (n : LineNo) :
    (s.enterDial n).collector.plan = s.collector.plan ∧ (s.enterDial n).tones.cadences = s.tones.cadences ∧
      settingsOf (s.enterDial n).lines = settingsOf s.lines := by
  unfold State.enterDial
  try dsimp only
  (repeat' split) <;> simp

@[simp] theorem State.admitLine_holds (s : State) (n : LineNo) (c : Feed) :
    (s.admitLine n c).power.budget = s.power.budget ∧ (s.admitLine n c).collector.plan = s.collector.plan ∧
      (s.admitLine n c).tones.cadences = s.tones.cadences ∧
      settingsOf (s.admitLine n c).lines = settingsOf s.lines := by
  unfold State.admitLine
  try dsimp only
  simp

@[simp] theorem State.handOnReceiver_holds (s : State) (r : ReceiverNo) :
    (s.handOnReceiver r).collector.plan = s.collector.plan ∧
      (s.handOnReceiver r).tones.cadences = s.tones.cadences ∧
      settingsOf (s.handOnReceiver r).lines = settingsOf s.lines := by
  unfold State.handOnReceiver
  split
  · simp
  · dsimp only
    split <;> simp

@[simp] theorem State.leaveDial_holds (s : State) (n : LineNo) :
    (s.leaveDial n).collector.plan = s.collector.plan ∧ (s.leaveDial n).tones.cadences = s.tones.cadences ∧
      settingsOf (s.leaveDial n).lines = settingsOf s.lines := by
  unfold State.leaveDial
  dsimp only
  split <;> simp

@[simp] theorem State.toIdle_holds (s : State) (n : LineNo) :
    (s.toIdle n).power.budget = s.power.budget ∧ (s.toIdle n).tones.cadences = s.tones.cadences ∧
      settingsOf (s.toIdle n).lines = settingsOf s.lines := by
  unfold State.toIdle
  try dsimp only
  simp

@[simp] theorem State.toClearing_holds (s : State) (n : LineNo) (t : Option ToneKind) (k : LineEvent) :
    (s.toClearing n t k).tones.cadences = s.tones.cadences ∧
      settingsOf (s.toClearing n t k).lines = settingsOf s.lines := by
  unfold State.toClearing
  try dsimp only
  simp

@[simp] theorem State.toLockout_holds (s : State) (n : LineNo) :
    (s.toLockout n).power.budget = s.power.budget ∧ (s.toLockout n).tones.cadences = s.tones.cadences ∧
      settingsOf (s.toLockout n).lines = settingsOf s.lines := by
  unfold State.toLockout
  try dsimp only
  simp

@[simp] theorem State.place_holds (s : State) (pos : AlertPos) (p : PhaseNo) :
    (s.place pos p).ring.capacity = s.ring.capacity ∧ (s.place pos p).ring.clock = s.ring.clock := by
  unfold State.place
  try dsimp only
  (repeat' split) <;> simp

@[simp] theorem State.placeAlong_holds (s : State) (l : List AlertPos) :
    (s.placeAlong l).ring.capacity = s.ring.capacity ∧ (s.placeAlong l).ring.clock = s.ring.clock := by
  induction l generalizing s with
  | nil => simp [State.placeAlong]
  | cons _ _ ih =>
    unfold State.placeAlong
    (repeat' split) <;> simp [ih]

@[simp] theorem State.tryPlacement_holds (s : State) :
    (s.tryPlacement).ring.capacity = s.ring.capacity ∧ (s.tryPlacement).ring.clock = s.ring.clock := by
  unfold State.tryPlacement
  try dsimp only
  simp

@[simp] theorem State.unplace_holds (s : State) (pos : AlertPos) :
    (s.unplace pos).ring.capacity = s.ring.capacity ∧ (s.unplace pos).ring.clock = s.ring.clock := by
  unfold State.unplace
  try dsimp only
  simp

@[simp] theorem State.fitPhase_holds (s : State) (p : PhaseNo) (l : List AlertPos) :
    (s.fitPhase p l).ring.capacity = s.ring.capacity ∧ (s.fitPhase p l).ring.clock = s.ring.clock := by
  induction l generalizing s with
  | nil => simp [State.fitPhase]
  | cons _ _ ih =>
    unfold State.fitPhase
    (repeat' split) <;> simp [ih]

@[simp] theorem State.fitPhases_holds (s : State) :
    (s.fitPhases).ring.capacity = s.ring.capacity ∧ (s.fitPhases).ring.clock = s.ring.clock := by
  unfold State.fitPhases
  exact ⟨(foldl_keeps (fun u : State => u.ring.capacity) _ (fun _ _ => by simp) _ _).trans (by simp),
      (foldl_keeps (fun u : State => u.ring.clock) _ (fun _ _ => by simp) _ _).trans (by simp)⟩

@[simp] theorem State.returnMember_holds (s : State) (n : LineNo) :
    (s.returnMember n).power.budget = s.power.budget ∧
      (s.returnMember n).tones.cadences = s.tones.cadences ∧
      settingsOf (s.returnMember n).lines = settingsOf s.lines := by
  unfold State.returnMember
  try dsimp only
  (repeat' split) <;> simp

@[simp] theorem State.returnMembers_holds (s : State) (ns : List LineNo) :
    (s.returnMembers ns).power.budget = s.power.budget ∧
      (s.returnMembers ns).tones.cadences = s.tones.cadences ∧
      settingsOf (s.returnMembers ns).lines = settingsOf s.lines := by
  unfold State.returnMembers
  exact ⟨(foldl_keeps (fun u : State => u.power.budget) _ (fun _ _ => by simp) _ _).trans (by simp),
      (foldl_keeps (fun u : State => u.tones.cadences) _ (fun _ _ => by simp) _ _).trans (by simp),
      (foldl_keeps (fun u : State => settingsOf u.lines) _ (fun _ _ => by simp) _ _).trans (by simp)⟩

@[simp] theorem State.endRecord_holds (s : State) (pos : AlertPos) (st : AlertState) (c : Option AlertCause) (a : Option LineNo) :
    (s.endRecord pos st c a).ring.capacity = s.ring.capacity ∧
      (s.endRecord pos st c a).ring.clock = s.ring.clock := by
  unfold State.endRecord
  try dsimp only
  simp

@[simp] theorem State.endUnanswered_holds (s : State) (pos : AlertPos) (st : AlertState) (c : Option AlertCause) :
    (s.endUnanswered pos st c).ring.capacity = s.ring.capacity ∧
      (s.endUnanswered pos st c).ring.clock = s.ring.clock ∧
      (s.endUnanswered pos st c).power.budget = s.power.budget ∧
      (s.endUnanswered pos st c).tones.cadences = s.tones.cadences ∧
      settingsOf (s.endUnanswered pos st c).lines = settingsOf s.lines := by
  unfold State.endUnanswered
  try dsimp only
  (repeat' split) <;> simp

@[simp] theorem State.admitAlong_holds (s : State) (l : List LineNo) :
    (s.admitAlong l).power.budget = s.power.budget ∧ (s.admitAlong l).collector.plan = s.collector.plan ∧
      (s.admitAlong l).tones.cadences = s.tones.cadences ∧
      settingsOf (s.admitAlong l).lines = settingsOf s.lines := by
  induction l generalizing s with
  | nil => simp [State.admitAlong]
  | cons _ _ ih =>
    unfold State.admitAlong
    (repeat' split) <;> simp [ih]

@[simp] theorem State.changeFeed_holds (s : State) (n : LineNo) (c : Feed) :
    settingsOf (s.changeFeed n c).lines = settingsOf s.lines := by
  unfold State.changeFeed
  try dsimp only
  simp

@[simp] theorem State.upgradeAlong_holds (s : State) (l : List LineNo) :
    settingsOf (s.upgradeAlong l).lines = settingsOf s.lines := by
  induction l generalizing s with
  | nil => simp [State.upgradeAlong]
  | cons _ _ ih =>
    unfold State.upgradeAlong
    (repeat' split) <;> simp [ih]

@[simp] theorem State.reevaluate_holds (s : State) :
    (s.reevaluate).ring.capacity = s.ring.capacity ∧ (s.reevaluate).ring.clock = s.ring.clock ∧
      (s.reevaluate).power.budget = s.power.budget ∧ (s.reevaluate).collector.plan = s.collector.plan ∧
      (s.reevaluate).tones.cadences = s.tones.cadences ∧ settingsOf (s.reevaluate).lines = settingsOf s.lines := by
  unfold State.reevaluate
  try dsimp only
  simp

@[simp] theorem State.shedRinging_holds (s : State) (l : List AlertPos) :
    (s.shedRinging l).ring.capacity = s.ring.capacity ∧ (s.shedRinging l).ring.clock = s.ring.clock := by
  induction l generalizing s with
  | nil => simp [State.shedRinging]
  | cons _ _ ih =>
    unfold State.shedRinging
    (repeat' split) <;> simp [ih]

@[simp] theorem State.shedFeed_holds (s : State) (l : List LineNo) :
    settingsOf (s.shedFeed l).lines = settingsOf s.lines := by
  induction l generalizing s with
  | nil => simp [State.shedFeed]
  | cons _ _ ih =>
    unfold State.shedFeed
    (repeat' split) <;> simp [ih]

@[simp] theorem State.shed_holds (s : State) :
    (s.shed).ring.capacity = s.ring.capacity ∧ (s.shed).ring.clock = s.ring.clock ∧
      settingsOf (s.shed).lines = settingsOf s.lines := by
  unfold State.shed
  try dsimp only
  simp

@[simp] theorem State.settle_holds (before : Nat) (s : State) :
    (s.settle before).ring.capacity = s.ring.capacity ∧ (s.settle before).ring.clock = s.ring.clock ∧
      (s.settle before).power.budget = s.power.budget ∧ (s.settle before).sli.hunter = s.sli.hunter ∧
      (s.settle before).sli.lastOctet = s.sli.lastOctet ∧ (s.settle before).sli.replies = s.sli.replies ∧
      (s.settle before).sli.sending = s.sli.sending ∧
      (s.settle before).sli.reportPosition = s.sli.reportPosition ∧
      (s.settle before).sli.overrun = s.sli.overrun ∧ (s.settle before).sli.controller = s.sli.controller ∧
      (s.settle before).sli.supervision = s.sli.supervision ∧
      (s.settle before).collector.plan = s.collector.plan ∧
      (s.settle before).tones.cadences = s.tones.cadences ∧
      settingsOf (s.settle before).lines = settingsOf s.lines := by
  unfold State.settle
  try dsimp only
  (repeat' split) <;> simp

@[simp] theorem State.hold_holds (s : State) (n : LineNo) (b : BearerNo) :
    settingsOf (s.hold n b).lines = settingsOf s.lines := by
  unfold State.hold
  try dsimp only
  simp

@[simp] theorem State.grant_holds (s : State) (n : LineNo) (b : BearerNo) :
    settingsOf (s.grant n b).lines = settingsOf s.lines := by
  unfold State.grant
  try dsimp only
  simp

@[simp] theorem State.enterFree_holds (s : State) (b : BearerNo) :
    settingsOf (s.enterFree b).lines = settingsOf s.lines := by
  unfold State.enterFree
  try dsimp only
  (repeat' split) <;> simp

@[simp] theorem State.joinQueue_holds (s : State) (n : LineNo) (c : QueueClass) :
    settingsOf (s.joinQueue n c).lines = settingsOf s.lines := by
  unfold State.joinQueue
  try dsimp only
  simp

@[simp] theorem State.preemptAlert_holds (s : State) (n : LineNo) :
    (s.preemptAlert n).ring.capacity = s.ring.capacity ∧ (s.preemptAlert n).ring.clock = s.ring.clock ∧
      (s.preemptAlert n).power.budget = s.power.budget ∧
      (s.preemptAlert n).tones.cadences = s.tones.cadences ∧
      settingsOf (s.preemptAlert n).lines = settingsOf s.lines := by
  unfold State.preemptAlert
  try dsimp only
  (repeat' split) <;> simp

@[simp] theorem State.supply_holds (s : State) (n : LineNo) (c : QueueClass) :
    (s.supply n c).ring.capacity = s.ring.capacity ∧ (s.supply n c).ring.clock = s.ring.clock ∧
      (s.supply n c).power.budget = s.power.budget ∧ (s.supply n c).tones.cadences = s.tones.cadences ∧
      settingsOf (s.supply n c).lines = settingsOf s.lines := by
  unfold State.supply
  try dsimp only
  (repeat' split) <;> simp

@[simp] theorem State.handBack_holds (s : State) (n : LineNo) :
    settingsOf (s.handBack n).lines = settingsOf s.lines := by
  unfold State.handBack
  try dsimp only
  (repeat' split) <;> simp

@[simp] theorem State.endReturning_holds (s : State) (pos : AlertPos) (st : AlertState) :
    (s.endReturning pos st).ring.capacity = s.ring.capacity ∧
      (s.endReturning pos st).ring.clock = s.ring.clock ∧
      (s.endReturning pos st).power.budget = s.power.budget ∧
      (s.endReturning pos st).tones.cadences = s.tones.cadences ∧
      settingsOf (s.endReturning pos st).lines = settingsOf s.lines := by
  unfold State.endReturning
  try dsimp only
  (repeat' split) <;> simp

@[simp] theorem State.originate_holds (s : State) (n : LineNo) :
    (s.originate n).power.budget = s.power.budget ∧ (s.originate n).sli.hunter = s.sli.hunter ∧
      (s.originate n).sli.lastOctet = s.sli.lastOctet ∧ (s.originate n).sli.replies = s.sli.replies ∧
      (s.originate n).sli.sending = s.sli.sending ∧
      (s.originate n).sli.reportPosition = s.sli.reportPosition ∧
      (s.originate n).sli.overrun = s.sli.overrun ∧ (s.originate n).sli.controller = s.sli.controller ∧
      (s.originate n).sli.supervision = s.sli.supervision ∧
      (s.originate n).collector.plan = s.collector.plan ∧ (s.originate n).tones.cadences = s.tones.cadences ∧
      settingsOf (s.originate n).lines = settingsOf s.lines := by
  unfold State.originate
  try dsimp only
  (repeat' split) <;> simp

@[simp] theorem State.releaseCall_holds (s : State) (n : LineNo) :
    (s.releaseCall n).power.budget = s.power.budget ∧ (s.releaseCall n).collector.plan = s.collector.plan ∧
      (s.releaseCall n).tones.cadences = s.tones.cadences ∧
      settingsOf (s.releaseCall n).lines = settingsOf s.lines := by
  unfold State.releaseCall
  try dsimp only
  (repeat' split) <;> simp

@[simp] theorem State.release_holds (s : State) (n : LineNo) :
    (s.release n).ring.capacity = s.ring.capacity ∧ (s.release n).ring.clock = s.ring.clock ∧
      (s.release n).power.budget = s.power.budget ∧ (s.release n).sli.hunter = s.sli.hunter ∧
      (s.release n).sli.lastOctet = s.sli.lastOctet ∧ (s.release n).sli.replies = s.sli.replies ∧
      (s.release n).sli.sending = s.sli.sending ∧ (s.release n).sli.reportPosition = s.sli.reportPosition ∧
      (s.release n).sli.overrun = s.sli.overrun ∧ (s.release n).sli.controller = s.sli.controller ∧
      (s.release n).sli.supervision = s.sli.supervision ∧ (s.release n).collector.plan = s.collector.plan ∧
      (s.release n).tones.cadences = s.tones.cadences ∧ settingsOf (s.release n).lines = settingsOf s.lines := by
  unfold State.release State.accounted
  simp

@[simp] theorem State.flash_holds (s : State) (n : LineNo) :
    settingsOf (s.flash n).lines = settingsOf s.lines := by
  unfold State.flash
  try dsimp only
  simp

@[simp] theorem State.answerFeed_holds (s : State) (pos : AlertPos) (n : LineNo) :
    (s.answerFeed pos n).ring.capacity = s.ring.capacity ∧ (s.answerFeed pos n).ring.clock = s.ring.clock ∧
      (s.answerFeed pos n).power.budget = s.power.budget ∧
      settingsOf (s.answerFeed pos n).lines = settingsOf s.lines := by
  unfold State.answerFeed
  dsimp only
  split <;> simp

@[simp] theorem State.answer_holds (s : State) (pos : AlertPos) (a : AlertRecord) (n : LineNo) :
    (s.answer pos a n).ring.capacity = s.ring.capacity ∧ (s.answer pos a n).ring.clock = s.ring.clock ∧
      (s.answer pos a n).power.budget = s.power.budget ∧ (s.answer pos a n).sli.hunter = s.sli.hunter ∧
      (s.answer pos a n).sli.lastOctet = s.sli.lastOctet ∧ (s.answer pos a n).sli.replies = s.sli.replies ∧
      (s.answer pos a n).sli.sending = s.sli.sending ∧
      (s.answer pos a n).sli.reportPosition = s.sli.reportPosition ∧
      (s.answer pos a n).sli.overrun = s.sli.overrun ∧ (s.answer pos a n).sli.controller = s.sli.controller ∧
      (s.answer pos a n).sli.supervision = s.sli.supervision ∧
      (s.answer pos a n).collector.plan = s.collector.plan ∧
      (s.answer pos a n).tones.cadences = s.tones.cadences ∧
      settingsOf (s.answer pos a n).lines = settingsOf s.lines := by
  unfold State.answer
  dsimp only
  split <;> simp

theorem State.answerTaken_holds {s t : State} {n : LineNo} {k : Nat} (h : s.answerTaken n k = some t) :
    (t).ring.capacity = s.ring.capacity ∧ (t).ring.clock = s.ring.clock ∧
      (t).power.budget = s.power.budget ∧ (t).sli.hunter = s.sli.hunter ∧
      (t).sli.lastOctet = s.sli.lastOctet ∧ (t).sli.replies = s.sli.replies ∧
      (t).sli.sending = s.sli.sending ∧ (t).sli.reportPosition = s.sli.reportPosition ∧
      (t).sli.overrun = s.sli.overrun ∧ (t).sli.controller = s.sli.controller ∧
      (t).sli.supervision = s.sli.supervision ∧ (t).collector.plan = s.collector.plan ∧
      (t).tones.cadences = s.tones.cadences ∧ settingsOf (t).lines = settingsOf s.lines := by
  unfold State.answerTaken at h
  revert h
  (repeat' split) <;> simp only [reduceCtorEq, Option.some.injEq, false_implies]
  rintro rfl
  simp

@[simp] theorem State.takeOff_holds (s : State) (n : LineNo) :
    (s.takeOff n).ring.capacity = s.ring.capacity ∧ (s.takeOff n).ring.clock = s.ring.clock ∧
      (s.takeOff n).power.budget = s.power.budget ∧ (s.takeOff n).sli.hunter = s.sli.hunter ∧
      (s.takeOff n).sli.lastOctet = s.sli.lastOctet ∧ (s.takeOff n).sli.replies = s.sli.replies ∧
      (s.takeOff n).sli.sending = s.sli.sending ∧ (s.takeOff n).sli.reportPosition = s.sli.reportPosition ∧
      (s.takeOff n).sli.overrun = s.sli.overrun ∧ (s.takeOff n).sli.controller = s.sli.controller ∧
      (s.takeOff n).sli.supervision = s.sli.supervision ∧ (s.takeOff n).collector.plan = s.collector.plan ∧
      (s.takeOff n).tones.cadences = s.tones.cadences ∧ settingsOf (s.takeOff n).lines = settingsOf s.lines := by
  unfold State.takeOff
  split
  · simp
  · split
    · simp
    · split
      · simp
      · rename_i h
        simp [State.answerTaken_holds h]
  all_goals simp

@[simp] theorem State.takeAnswer_holds (s : State) (n : LineNo) (k : Nat) :
    (s.takeAnswer n k).ring.capacity = s.ring.capacity ∧ (s.takeAnswer n k).ring.clock = s.ring.clock ∧
      (s.takeAnswer n k).power.budget = s.power.budget ∧ (s.takeAnswer n k).sli.hunter = s.sli.hunter ∧
      (s.takeAnswer n k).sli.lastOctet = s.sli.lastOctet ∧ (s.takeAnswer n k).sli.replies = s.sli.replies ∧
      (s.takeAnswer n k).sli.sending = s.sli.sending ∧
      (s.takeAnswer n k).sli.reportPosition = s.sli.reportPosition ∧
      (s.takeAnswer n k).sli.overrun = s.sli.overrun ∧ (s.takeAnswer n k).sli.controller = s.sli.controller ∧
      (s.takeAnswer n k).sli.supervision = s.sli.supervision ∧
      (s.takeAnswer n k).collector.plan = s.collector.plan ∧
      (s.takeAnswer n k).tones.cadences = s.tones.cadences ∧
      settingsOf (s.takeAnswer n k).lines = settingsOf s.lines := by
  unfold State.takeAnswer
  split
  · simp
  · rename_i h
    simp [State.answerTaken_holds h]

@[simp] theorem State.misdial_holds (s : State) (n : LineNo) :
    (s.misdial n).collector.plan = s.collector.plan ∧ (s.misdial n).tones.cadences = s.tones.cadences ∧
      settingsOf (s.misdial n).lines = settingsOf s.lines := by
  unfold State.misdial
  try dsimp only
  simp

@[simp] theorem State.flushQueue_holds (s : State) :
    (s.flushQueue).tones.cadences = s.tones.cadences ∧ settingsOf (s.flushQueue).lines = settingsOf s.lines := by
  unfold State.flushQueue
  exact ⟨(foldl_keeps (fun u : State => u.tones.cadences) _ (fun _ _ => by simp) _ _).trans (by simp),
      (foldl_keeps (fun u : State => settingsOf u.lines) _ (fun _ _ => by simp) _ _).trans (by simp)⟩

@[simp] theorem State.endHowler_holds (s : State) (n : LineNo) :
    (s.endHowler n).tones.cadences = s.tones.cadences ∧
      settingsOf (s.endHowler n).lines = settingsOf s.lines := by
  unfold State.endHowler
  try dsimp only
  simp

@[simp] theorem State.completeNumber_holds (s : State) (n : LineNo) :
    (s.completeNumber n).ring.capacity = s.ring.capacity ∧ (s.completeNumber n).ring.clock = s.ring.clock ∧
      (s.completeNumber n).power.budget = s.power.budget ∧
      (s.completeNumber n).collector.plan = s.collector.plan ∧
      (s.completeNumber n).tones.cadences = s.tones.cadences ∧
      settingsOf (s.completeNumber n).lines = settingsOf s.lines := by
  unfold State.completeNumber
  dsimp only
  (repeat' split) <;> simp

@[simp] theorem State.complete_holds (s : State) (n : LineNo) :
    (s.complete n).ring.capacity = s.ring.capacity ∧ (s.complete n).ring.clock = s.ring.clock ∧
      (s.complete n).power.budget = s.power.budget ∧ (s.complete n).sli.hunter = s.sli.hunter ∧
      (s.complete n).sli.lastOctet = s.sli.lastOctet ∧ (s.complete n).sli.replies = s.sli.replies ∧
      (s.complete n).sli.sending = s.sli.sending ∧ (s.complete n).sli.reportPosition = s.sli.reportPosition ∧
      (s.complete n).sli.overrun = s.sli.overrun ∧ (s.complete n).sli.controller = s.sli.controller ∧
      (s.complete n).sli.supervision = s.sli.supervision ∧ (s.complete n).collector.plan = s.collector.plan ∧
      (s.complete n).tones.cadences = s.tones.cadences ∧ settingsOf (s.complete n).lines = settingsOf s.lines := by
  unfold State.complete State.accounted
  simp

@[simp] theorem State.bar_holds (s : State) (n : LineNo) :
    (s.bar n).collector.plan = s.collector.plan ∧ (s.bar n).tones.cadences = s.tones.cadences ∧
      settingsOf (s.bar n).lines = settingsOf s.lines := by
  unfold State.bar
  try dsimp only
  simp

@[simp] theorem State.recordDigit_holds (s : State) (n : LineNo) (d : Digit) :
    (s.recordDigit n d).tones.cadences = s.tones.cadences ∧
      settingsOf (s.recordDigit n d).lines = settingsOf s.lines := by
  unfold State.recordDigit
  dsimp only
  split <;> simp

@[simp] theorem State.checkNumber_holds (s : State) (n : LineNo) :
    (s.checkNumber n).ring.capacity = s.ring.capacity ∧ (s.checkNumber n).ring.clock = s.ring.clock ∧
      (s.checkNumber n).power.budget = s.power.budget ∧ (s.checkNumber n).sli.hunter = s.sli.hunter ∧
      (s.checkNumber n).sli.lastOctet = s.sli.lastOctet ∧ (s.checkNumber n).sli.replies = s.sli.replies ∧
      (s.checkNumber n).sli.sending = s.sli.sending ∧
      (s.checkNumber n).sli.reportPosition = s.sli.reportPosition ∧
      (s.checkNumber n).sli.overrun = s.sli.overrun ∧ (s.checkNumber n).sli.controller = s.sli.controller ∧
      (s.checkNumber n).sli.supervision = s.sli.supervision ∧
      (s.checkNumber n).collector.plan = s.collector.plan ∧
      (s.checkNumber n).tones.cadences = s.tones.cadences ∧
      settingsOf (s.checkNumber n).lines = settingsOf s.lines := by
  unfold State.checkNumber
  dsimp only
  (repeat' split) <;> simp

@[simp] theorem State.appendDigit_holds (s : State) (n : LineNo) (d : Digit) :
    (s.appendDigit n d).ring.capacity = s.ring.capacity ∧ (s.appendDigit n d).ring.clock = s.ring.clock ∧
      (s.appendDigit n d).power.budget = s.power.budget ∧ (s.appendDigit n d).sli.hunter = s.sli.hunter ∧
      (s.appendDigit n d).sli.lastOctet = s.sli.lastOctet ∧ (s.appendDigit n d).sli.replies = s.sli.replies ∧
      (s.appendDigit n d).sli.sending = s.sli.sending ∧
      (s.appendDigit n d).sli.reportPosition = s.sli.reportPosition ∧
      (s.appendDigit n d).sli.overrun = s.sli.overrun ∧
      (s.appendDigit n d).sli.controller = s.sli.controller ∧
      (s.appendDigit n d).sli.supervision = s.sli.supervision ∧
      (s.appendDigit n d).collector.plan = s.collector.plan ∧
      (s.appendDigit n d).tones.cadences = s.tones.cadences ∧
      settingsOf (s.appendDigit n d).lines = settingsOf s.lines := by
  unfold State.appendDigit
  try dsimp only
  simp

@[simp] theorem State.hashKey_holds (s : State) (n : LineNo) :
    (s.hashKey n).ring.capacity = s.ring.capacity ∧ (s.hashKey n).ring.clock = s.ring.clock ∧
      (s.hashKey n).power.budget = s.power.budget ∧ (s.hashKey n).sli.hunter = s.sli.hunter ∧
      (s.hashKey n).sli.lastOctet = s.sli.lastOctet ∧ (s.hashKey n).sli.replies = s.sli.replies ∧
      (s.hashKey n).sli.sending = s.sli.sending ∧ (s.hashKey n).sli.reportPosition = s.sli.reportPosition ∧
      (s.hashKey n).sli.overrun = s.sli.overrun ∧ (s.hashKey n).sli.controller = s.sli.controller ∧
      (s.hashKey n).sli.supervision = s.sli.supervision ∧ (s.hashKey n).collector.plan = s.collector.plan ∧
      (s.hashKey n).tones.cadences = s.tones.cadences ∧ settingsOf (s.hashKey n).lines = settingsOf s.lines := by
  unfold State.hashKey
  try dsimp only
  (repeat' split) <;> simp

@[simp] theorem State.takeKey_holds (s : State) (r : ReceiverNo) (k : Key) :
    (s.takeKey r k).ring.capacity = s.ring.capacity ∧ (s.takeKey r k).ring.clock = s.ring.clock ∧
      (s.takeKey r k).power.budget = s.power.budget ∧ (s.takeKey r k).sli.hunter = s.sli.hunter ∧
      (s.takeKey r k).sli.lastOctet = s.sli.lastOctet ∧ (s.takeKey r k).sli.replies = s.sli.replies ∧
      (s.takeKey r k).sli.sending = s.sli.sending ∧
      (s.takeKey r k).sli.reportPosition = s.sli.reportPosition ∧
      (s.takeKey r k).sli.overrun = s.sli.overrun ∧ (s.takeKey r k).sli.controller = s.sli.controller ∧
      (s.takeKey r k).sli.supervision = s.sli.supervision ∧
      (s.takeKey r k).collector.plan = s.collector.plan ∧ (s.takeKey r k).tones.cadences = s.tones.cadences ∧
      settingsOf (s.takeKey r k).lines = settingsOf s.lines := by
  unfold State.takeKey
  try dsimp only
  (repeat' split) <;> simp

@[simp] theorem State.closeTrain_holds (s : State) (n : LineNo) :
    (s.closeTrain n).ring.capacity = s.ring.capacity ∧ (s.closeTrain n).ring.clock = s.ring.clock ∧
      (s.closeTrain n).power.budget = s.power.budget ∧ (s.closeTrain n).sli.hunter = s.sli.hunter ∧
      (s.closeTrain n).sli.lastOctet = s.sli.lastOctet ∧ (s.closeTrain n).sli.replies = s.sli.replies ∧
      (s.closeTrain n).sli.sending = s.sli.sending ∧
      (s.closeTrain n).sli.reportPosition = s.sli.reportPosition ∧
      (s.closeTrain n).sli.overrun = s.sli.overrun ∧ (s.closeTrain n).sli.controller = s.sli.controller ∧
      (s.closeTrain n).sli.supervision = s.sli.supervision ∧
      (s.closeTrain n).collector.plan = s.collector.plan ∧
      (s.closeTrain n).tones.cadences = s.tones.cadences ∧
      settingsOf (s.closeTrain n).lines = settingsOf s.lines := by
  unfold State.closeTrain
  dsimp only
  (repeat' split) <;> simp

@[simp] theorem State.startSupervision_holds (s : State) :
    (s.startSupervision).sli.hunter = s.sli.hunter ∧ (s.startSupervision).sli.lastOctet = s.sli.lastOctet ∧
      (s.startSupervision).sli.replies = s.sli.replies ∧ (s.startSupervision).sli.sending = s.sli.sending ∧
      (s.startSupervision).sli.reportPosition = s.sli.reportPosition ∧
      (s.startSupervision).sli.overrun = s.sli.overrun ∧
      (s.startSupervision).sli.controller = s.sli.controller := by
  unfold State.startSupervision
  try dsimp only
  simp

@[simp] theorem State.resumeSupervision_holds (s : State) (c : WakeCause) :
    (s.resumeSupervision c).sli.hunter = s.sli.hunter ∧
      (s.resumeSupervision c).sli.lastOctet = s.sli.lastOctet ∧
      (s.resumeSupervision c).sli.replies = s.sli.replies ∧
      (s.resumeSupervision c).sli.sending = s.sli.sending ∧
      (s.resumeSupervision c).sli.reportPosition = s.sli.reportPosition ∧
      (s.resumeSupervision c).sli.overrun = s.sli.overrun ∧
      (s.resumeSupervision c).sli.controller = s.sli.controller := by
  unfold State.resumeSupervision
  try dsimp only
  (repeat' split) <;> simp

@[simp] theorem State.wake_holds (s : State) (c : WakeCause) :
    (s.wake c).ring.capacity = s.ring.capacity ∧ (s.wake c).power.budget = s.power.budget ∧
      (s.wake c).sli.hunter = s.sli.hunter ∧ (s.wake c).sli.lastOctet = s.sli.lastOctet ∧
      (s.wake c).sli.replies = s.sli.replies ∧ (s.wake c).sli.sending = s.sli.sending ∧
      (s.wake c).sli.reportPosition = s.sli.reportPosition ∧ (s.wake c).sli.overrun = s.sli.overrun ∧
      (s.wake c).sli.controller = s.sli.controller ∧ (s.wake c).collector.plan = s.collector.plan ∧
      (s.wake c).tones.cadences = s.tones.cadences ∧ settingsOf (s.wake c).lines = settingsOf s.lines := by
  unfold State.wake
  try dsimp only
  simp

@[simp] theorem State.wakeIfConserving_holds (s : State) (c : WakeCause) :
    (s.wakeIfConserving c).ring.capacity = s.ring.capacity ∧
      (s.wakeIfConserving c).power.budget = s.power.budget ∧
      (s.wakeIfConserving c).sli.hunter = s.sli.hunter ∧
      (s.wakeIfConserving c).sli.lastOctet = s.sli.lastOctet ∧
      (s.wakeIfConserving c).sli.replies = s.sli.replies ∧
      (s.wakeIfConserving c).sli.sending = s.sli.sending ∧
      (s.wakeIfConserving c).sli.reportPosition = s.sli.reportPosition ∧
      (s.wakeIfConserving c).sli.overrun = s.sli.overrun ∧
      (s.wakeIfConserving c).sli.controller = s.sli.controller ∧
      (s.wakeIfConserving c).collector.plan = s.collector.plan ∧
      (s.wakeIfConserving c).tones.cadences = s.tones.cadences ∧
      settingsOf (s.wakeIfConserving c).lines = settingsOf s.lines := by
  unfold State.wakeIfConserving
  try dsimp only
  (repeat' split) <;> simp

@[simp] theorem State.enterConserve_holds (s : State) (limit : Nat) :
    (s.enterConserve limit).ring.capacity = s.ring.capacity ∧
      (s.enterConserve limit).ring.clock = s.ring.clock ∧
      (s.enterConserve limit).power.budget = s.power.budget ∧
      (s.enterConserve limit).sli.hunter = s.sli.hunter ∧
      (s.enterConserve limit).sli.lastOctet = s.sli.lastOctet ∧
      (s.enterConserve limit).sli.replies = s.sli.replies ∧
      (s.enterConserve limit).sli.sending = s.sli.sending ∧
      (s.enterConserve limit).sli.reportPosition = s.sli.reportPosition ∧
      (s.enterConserve limit).sli.overrun = s.sli.overrun ∧
      (s.enterConserve limit).sli.controller = s.sli.controller ∧
      (s.enterConserve limit).collector.plan = s.collector.plan ∧
      (s.enterConserve limit).tones.cadences = s.tones.cadences ∧
      settingsOf (s.enterConserve limit).lines = settingsOf s.lines := by
  unfold State.enterConserve
  try dsimp only
  (repeat' split) <;> simp

@[simp] theorem State.gapPoint_holds (s : State) (n : LineNo) :
    (s.gapPoint n).ring.capacity = s.ring.capacity ∧ (s.gapPoint n).ring.clock = s.ring.clock ∧
      (s.gapPoint n).power.budget = s.power.budget ∧ (s.gapPoint n).sli.hunter = s.sli.hunter ∧
      (s.gapPoint n).sli.lastOctet = s.sli.lastOctet ∧ (s.gapPoint n).sli.replies = s.sli.replies ∧
      (s.gapPoint n).sli.sending = s.sli.sending ∧ (s.gapPoint n).sli.reportPosition = s.sli.reportPosition ∧
      (s.gapPoint n).sli.overrun = s.sli.overrun ∧ (s.gapPoint n).sli.controller = s.sli.controller ∧
      (s.gapPoint n).sli.supervision = s.sli.supervision ∧ (s.gapPoint n).collector.plan = s.collector.plan ∧
      (s.gapPoint n).tones.cadences = s.tones.cadences ∧ settingsOf (s.gapPoint n).lines = settingsOf s.lines := by
  unfold State.gapPoint
  try dsimp only
  (repeat' split) <;> simp

@[simp] theorem State.releasePoint_holds (s : State) (n : LineNo) :
    (s.releasePoint n).ring.capacity = s.ring.capacity ∧ (s.releasePoint n).ring.clock = s.ring.clock ∧
      (s.releasePoint n).power.budget = s.power.budget ∧ (s.releasePoint n).sli.hunter = s.sli.hunter ∧
      (s.releasePoint n).sli.lastOctet = s.sli.lastOctet ∧ (s.releasePoint n).sli.replies = s.sli.replies ∧
      (s.releasePoint n).sli.sending = s.sli.sending ∧
      (s.releasePoint n).sli.reportPosition = s.sli.reportPosition ∧
      (s.releasePoint n).sli.overrun = s.sli.overrun ∧ (s.releasePoint n).sli.controller = s.sli.controller ∧
      (s.releasePoint n).sli.supervision = s.sli.supervision ∧
      (s.releasePoint n).collector.plan = s.collector.plan ∧
      (s.releasePoint n).tones.cadences = s.tones.cadences ∧
      settingsOf (s.releasePoint n).lines = settingsOf s.lines := by
  unfold State.releasePoint
  try dsimp only
  (repeat' split) <;> simp

@[simp] theorem State.runFails_holds (s : State) (n : LineNo) :
    (s.runFails n).ring.capacity = s.ring.capacity ∧ (s.runFails n).ring.clock = s.ring.clock ∧
      (s.runFails n).power.budget = s.power.budget ∧ (s.runFails n).sli.hunter = s.sli.hunter ∧
      (s.runFails n).sli.lastOctet = s.sli.lastOctet ∧ (s.runFails n).sli.replies = s.sli.replies ∧
      (s.runFails n).sli.sending = s.sli.sending ∧ (s.runFails n).sli.reportPosition = s.sli.reportPosition ∧
      (s.runFails n).sli.overrun = s.sli.overrun ∧ (s.runFails n).sli.controller = s.sli.controller ∧
      (s.runFails n).sli.supervision = s.sli.supervision ∧ (s.runFails n).collector.plan = s.collector.plan ∧
      (s.runFails n).tones.cadences = s.tones.cadences ∧ settingsOf (s.runFails n).lines = settingsOf s.lines := by
  unfold State.runFails
  dsimp only
  (repeat' split) <;> simp

@[simp] theorem State.takeHanded_holds (s : State) (h : Handed) :
    (s.takeHanded h).ring.capacity = s.ring.capacity ∧ (s.takeHanded h).power.budget = s.power.budget ∧
      (s.takeHanded h).sli.hunter = s.sli.hunter ∧ (s.takeHanded h).sli.lastOctet = s.sli.lastOctet ∧
      (s.takeHanded h).sli.replies = s.sli.replies ∧ (s.takeHanded h).sli.sending = s.sli.sending ∧
      (s.takeHanded h).sli.reportPosition = s.sli.reportPosition ∧
      (s.takeHanded h).sli.overrun = s.sli.overrun ∧ (s.takeHanded h).sli.controller = s.sli.controller ∧
      (s.takeHanded h).collector.plan = s.collector.plan ∧
      (s.takeHanded h).tones.cadences = s.tones.cadences ∧
      settingsOf (s.takeHanded h).lines = settingsOf s.lines := by
  unfold State.takeHanded
  try dsimp only
  (repeat' split) <;> simp

@[simp] theorem State.takeHandedOf_holds (s : State) (n : LineNo) :
    (s.takeHandedOf n).ring.capacity = s.ring.capacity ∧ (s.takeHandedOf n).power.budget = s.power.budget ∧
      (s.takeHandedOf n).sli.hunter = s.sli.hunter ∧ (s.takeHandedOf n).sli.lastOctet = s.sli.lastOctet ∧
      (s.takeHandedOf n).sli.replies = s.sli.replies ∧ (s.takeHandedOf n).sli.sending = s.sli.sending ∧
      (s.takeHandedOf n).sli.reportPosition = s.sli.reportPosition ∧
      (s.takeHandedOf n).sli.overrun = s.sli.overrun ∧ (s.takeHandedOf n).sli.controller = s.sli.controller ∧
      (s.takeHandedOf n).collector.plan = s.collector.plan ∧
      (s.takeHandedOf n).tones.cadences = s.tones.cadences ∧
      settingsOf (s.takeHandedOf n).lines = settingsOf s.lines := by
  unfold State.takeHandedOf
  exact ⟨(foldl_keeps (fun u : State => u.ring.capacity) _ (fun _ _ => by simp) _ _).trans (by simp),
      (foldl_keeps (fun u : State => u.power.budget) _ (fun _ _ => by simp) _ _).trans (by simp),
      (foldl_keeps (fun u : State => u.sli.hunter) _ (fun _ _ => by simp) _ _).trans (by simp),
      (foldl_keeps (fun u : State => u.sli.lastOctet) _ (fun _ _ => by simp) _ _).trans (by simp),
      (foldl_keeps (fun u : State => u.sli.replies) _ (fun _ _ => by simp) _ _).trans (by simp),
      (foldl_keeps (fun u : State => u.sli.sending) _ (fun _ _ => by simp) _ _).trans (by simp),
      (foldl_keeps (fun u : State => u.sli.reportPosition) _ (fun _ _ => by simp) _ _).trans (by simp),
      (foldl_keeps (fun u : State => u.sli.overrun) _ (fun _ _ => by simp) _ _).trans (by simp),
      (foldl_keeps (fun u : State => u.sli.controller) _ (fun _ _ => by simp) _ _).trans (by simp),
      (foldl_keeps (fun u : State => u.collector.plan) _ (fun _ _ => by simp) _ _).trans (by simp),
      (foldl_keeps (fun u : State => u.tones.cadences) _ (fun _ _ => by simp) _ _).trans (by simp),
      (foldl_keeps (fun u : State => settingsOf u.lines) _ (fun _ _ => by simp) _ _).trans (by simp)⟩

@[simp] theorem State.onTransition_holds (s : State) (n : LineNo) :
    (s.onTransition n).ring.capacity = s.ring.capacity ∧ (s.onTransition n).power.budget = s.power.budget ∧
      (s.onTransition n).sli.hunter = s.sli.hunter ∧ (s.onTransition n).sli.lastOctet = s.sli.lastOctet ∧
      (s.onTransition n).sli.replies = s.sli.replies ∧ (s.onTransition n).sli.sending = s.sli.sending ∧
      (s.onTransition n).sli.reportPosition = s.sli.reportPosition ∧
      (s.onTransition n).sli.overrun = s.sli.overrun ∧ (s.onTransition n).sli.controller = s.sli.controller ∧
      (s.onTransition n).collector.plan = s.collector.plan ∧
      (s.onTransition n).tones.cadences = s.tones.cadences ∧
      settingsOf (s.onTransition n).lines = settingsOf s.lines := by
  unfold State.onTransition
  dsimp only
  (repeat' split) <;> simp

@[simp] theorem State.breakInDial_holds (s : State) (n : LineNo) (t b : Nat) :
    (s.breakInDial n t b).ring.capacity = s.ring.capacity ∧
      (s.breakInDial n t b).ring.clock = s.ring.clock ∧ (s.breakInDial n t b).power.budget = s.power.budget ∧
      (s.breakInDial n t b).sli.hunter = s.sli.hunter ∧
      (s.breakInDial n t b).sli.lastOctet = s.sli.lastOctet ∧
      (s.breakInDial n t b).sli.replies = s.sli.replies ∧ (s.breakInDial n t b).sli.sending = s.sli.sending ∧
      (s.breakInDial n t b).sli.reportPosition = s.sli.reportPosition ∧
      (s.breakInDial n t b).sli.overrun = s.sli.overrun ∧
      (s.breakInDial n t b).sli.controller = s.sli.controller ∧
      (s.breakInDial n t b).sli.supervision = s.sli.supervision ∧
      (s.breakInDial n t b).collector.plan = s.collector.plan ∧
      (s.breakInDial n t b).tones.cadences = s.tones.cadences ∧
      settingsOf (s.breakInDial n t b).lines = settingsOf s.lines := by
  unfold State.breakInDial
  try dsimp only
  (repeat' split) <;> simp

@[simp] theorem State.breakInConnected_holds (s : State) (n : LineNo) (b : Nat) :
    settingsOf (s.breakInConnected n b).lines = settingsOf s.lines := by
  unfold State.breakInConnected
  try dsimp only
  (repeat' split) <;> simp

@[simp] theorem State.classifyOff_holds (s : State) (n : LineNo) (t b : Nat) :
    (s.classifyOff n t b).ring.capacity = s.ring.capacity ∧
      (s.classifyOff n t b).ring.clock = s.ring.clock ∧ (s.classifyOff n t b).power.budget = s.power.budget ∧
      (s.classifyOff n t b).sli.hunter = s.sli.hunter ∧
      (s.classifyOff n t b).sli.lastOctet = s.sli.lastOctet ∧
      (s.classifyOff n t b).sli.replies = s.sli.replies ∧ (s.classifyOff n t b).sli.sending = s.sli.sending ∧
      (s.classifyOff n t b).sli.reportPosition = s.sli.reportPosition ∧
      (s.classifyOff n t b).sli.overrun = s.sli.overrun ∧
      (s.classifyOff n t b).sli.controller = s.sli.controller ∧
      (s.classifyOff n t b).sli.supervision = s.sli.supervision ∧
      (s.classifyOff n t b).collector.plan = s.collector.plan ∧
      (s.classifyOff n t b).tones.cadences = s.tones.cadences ∧
      settingsOf (s.classifyOff n t b).lines = settingsOf s.lines := by
  unfold State.classifyOff
  try dsimp only
  (repeat' split) <;> simp

@[simp] theorem State.releaseLongBreak_holds (s : State) (n : LineNo) (b : Nat) :
    (s.releaseLongBreak n b).ring.capacity = s.ring.capacity ∧
      (s.releaseLongBreak n b).ring.clock = s.ring.clock ∧
      (s.releaseLongBreak n b).power.budget = s.power.budget ∧
      (s.releaseLongBreak n b).sli.hunter = s.sli.hunter ∧
      (s.releaseLongBreak n b).sli.lastOctet = s.sli.lastOctet ∧
      (s.releaseLongBreak n b).sli.replies = s.sli.replies ∧
      (s.releaseLongBreak n b).sli.sending = s.sli.sending ∧
      (s.releaseLongBreak n b).sli.reportPosition = s.sli.reportPosition ∧
      (s.releaseLongBreak n b).sli.overrun = s.sli.overrun ∧
      (s.releaseLongBreak n b).sli.controller = s.sli.controller ∧
      (s.releaseLongBreak n b).sli.supervision = s.sli.supervision ∧
      (s.releaseLongBreak n b).collector.plan = s.collector.plan ∧
      (s.releaseLongBreak n b).tones.cadences = s.tones.cadences ∧
      settingsOf (s.releaseLongBreak n b).lines = settingsOf s.lines := by
  unfold State.releaseLongBreak
  try dsimp only
  (repeat' split) <;> simp

@[simp] theorem State.offTransition_holds (s : State) (n : LineNo) :
    (s.offTransition n).ring.capacity = s.ring.capacity ∧
      (s.offTransition n).power.budget = s.power.budget ∧ (s.offTransition n).sli.hunter = s.sli.hunter ∧
      (s.offTransition n).sli.lastOctet = s.sli.lastOctet ∧ (s.offTransition n).sli.replies = s.sli.replies ∧
      (s.offTransition n).sli.sending = s.sli.sending ∧
      (s.offTransition n).sli.reportPosition = s.sli.reportPosition ∧
      (s.offTransition n).sli.overrun = s.sli.overrun ∧
      (s.offTransition n).sli.controller = s.sli.controller ∧
      (s.offTransition n).collector.plan = s.collector.plan ∧
      (s.offTransition n).tones.cadences = s.tones.cadences ∧
      settingsOf (s.offTransition n).lines = settingsOf s.lines := by
  unfold State.offTransition
  dsimp only
  (repeat' split) <;> simp

@[simp] theorem State.declareOff_holds (s : State) (n : LineNo) :
    (s.declareOff n).ring.capacity = s.ring.capacity ∧ (s.declareOff n).power.budget = s.power.budget ∧
      (s.declareOff n).sli.hunter = s.sli.hunter ∧ (s.declareOff n).sli.lastOctet = s.sli.lastOctet ∧
      (s.declareOff n).sli.replies = s.sli.replies ∧ (s.declareOff n).sli.sending = s.sli.sending ∧
      (s.declareOff n).sli.reportPosition = s.sli.reportPosition ∧
      (s.declareOff n).sli.overrun = s.sli.overrun ∧ (s.declareOff n).sli.controller = s.sli.controller ∧
      (s.declareOff n).collector.plan = s.collector.plan ∧
      (s.declareOff n).tones.cadences = s.tones.cadences ∧
      settingsOf (s.declareOff n).lines = settingsOf s.lines := by
  unfold State.declareOff
  try dsimp only
  (repeat' split) <;> simp

@[simp] theorem State.debounce_holds (s : State) (n : LineNo) (h : Hook) :
    (s.debounce n h).ring.capacity = s.ring.capacity ∧ (s.debounce n h).power.budget = s.power.budget ∧
      (s.debounce n h).sli.hunter = s.sli.hunter ∧ (s.debounce n h).sli.lastOctet = s.sli.lastOctet ∧
      (s.debounce n h).sli.replies = s.sli.replies ∧ (s.debounce n h).sli.sending = s.sli.sending ∧
      (s.debounce n h).sli.reportPosition = s.sli.reportPosition ∧
      (s.debounce n h).sli.overrun = s.sli.overrun ∧ (s.debounce n h).sli.controller = s.sli.controller ∧
      (s.debounce n h).collector.plan = s.collector.plan ∧
      (s.debounce n h).tones.cadences = s.tones.cadences ∧
      settingsOf (s.debounce n h).lines = settingsOf s.lines := by
  unfold State.debounce
  try dsimp only
  (repeat' split) <;> simp

@[simp] theorem State.sample_holds (s : State) (n : LineNo) (h : Hook) :
    (s.sample n h).ring.capacity = s.ring.capacity ∧ (s.sample n h).power.budget = s.power.budget ∧
      (s.sample n h).sli.hunter = s.sli.hunter ∧ (s.sample n h).sli.lastOctet = s.sli.lastOctet ∧
      (s.sample n h).sli.replies = s.sli.replies ∧ (s.sample n h).sli.sending = s.sli.sending ∧
      (s.sample n h).sli.reportPosition = s.sli.reportPosition ∧ (s.sample n h).sli.overrun = s.sli.overrun ∧
      (s.sample n h).sli.controller = s.sli.controller ∧ (s.sample n h).collector.plan = s.collector.plan ∧
      (s.sample n h).tones.cadences = s.tones.cadences ∧ settingsOf (s.sample n h).lines = settingsOf s.lines := by
  unfold State.sample
  dsimp only
  (repeat' split) <;> simp

@[simp] theorem State.energizeLine_holds (s : State) (n : LineNo) :
    settingsOf (s.energizeLine n).lines = settingsOf s.lines := by
  unfold State.energizeLine
  try dsimp only
  simp

@[simp] theorem State.deenergizeLine_holds (s : State) (n : LineNo) :
    settingsOf (s.deenergizeLine n).lines = settingsOf s.lines := by
  unfold State.deenergizeLine
  try dsimp only
  simp

@[simp] theorem State.energizeGroup_holds (s : State) :
    settingsOf (s.energizeGroup).lines = settingsOf s.lines := by
  unfold State.energizeGroup
  exact (foldl_keeps (fun u : State => settingsOf u.lines) _ (fun _ _ => by simp) _ _).trans (by simp)

@[simp] theorem State.advanceTone_holds (s : State) (k : ToneKind) :
    (s.advanceTone k).tones.cadences = s.tones.cadences := by
  unfold State.advanceTone
  try dsimp only
  (repeat' split) <;> simp

@[simp] theorem State.startBurstAt_holds (s : State) (p : PhaseNo) (pos : AlertPos) :
    (s.startBurstAt p pos).ring.capacity = s.ring.capacity ∧
      (s.startBurstAt p pos).ring.clock = s.ring.clock := by
  unfold State.startBurstAt
  try dsimp only
  (repeat' split) <;> simp

@[simp] theorem State.startWindow_holds (s : State) (p : PhaseNo) :
    (s.startWindow p).ring.capacity = s.ring.capacity ∧ (s.startWindow p).ring.clock = s.ring.clock := by
  unfold State.startWindow
  split
  · simp
  · exact ⟨(foldl_keeps (fun u : State => u.ring.capacity) _ (fun _ _ => by simp) _ _).trans (by simp),
      (foldl_keeps (fun u : State => u.ring.clock) _ (fun _ _ => by simp) _ _).trans (by simp)⟩

@[simp] theorem State.advanceBurst_holds (s : State) (pos : AlertPos) :
    (s.advanceBurst pos).ring.capacity = s.ring.capacity ∧ (s.advanceBurst pos).ring.clock = s.ring.clock := by
  unfold State.advanceBurst
  try dsimp only
  simp

@[simp] theorem State.endTest_holds (s : State) :
    settingsOf (s.endTest).lines = settingsOf s.lines := by
  unfold State.endTest
  dsimp only
  (repeat' split) <;> simp

@[simp] theorem State.loss_holds (s : State) :
    (s.loss).sli.hunter = s.sli.hunter ∧ (s.loss).sli.lastOctet = s.sli.lastOctet ∧
      (s.loss).sli.replies = s.sli.replies ∧ (s.loss).sli.sending = s.sli.sending ∧
      (s.loss).sli.reportPosition = s.sli.reportPosition ∧ (s.loss).sli.overrun = s.sli.overrun ∧
      (s.loss).sli.controller = s.sli.controller ∧ (s.loss).sli.supervision = s.sli.supervision := by
  unfold State.loss
  try dsimp only
  (repeat' split) <;> simp

@[simp] theorem State.restoreBearer_holds (s : State) (b : BearerNo) :
    settingsOf (s.restoreBearer b).lines = settingsOf s.lines := by
  unfold State.restoreBearer
  try dsimp only
  (repeat' split) <;> simp

@[simp] theorem State.restoreHighway_holds (s : State) :
    (s.restoreHighway).sli.hunter = s.sli.hunter ∧ (s.restoreHighway).sli.lastOctet = s.sli.lastOctet ∧
      (s.restoreHighway).sli.replies = s.sli.replies ∧ (s.restoreHighway).sli.sending = s.sli.sending ∧
      (s.restoreHighway).sli.reportPosition = s.sli.reportPosition ∧
      (s.restoreHighway).sli.overrun = s.sli.overrun ∧ (s.restoreHighway).sli.controller = s.sli.controller ∧
      (s.restoreHighway).sli.supervision = s.sli.supervision ∧
      settingsOf (s.restoreHighway).lines = settingsOf s.lines := by
  unfold State.restoreHighway
  split
  · simp
  · simp
  · simp
  · exact ⟨(foldl_keeps (fun u : State => u.sli.hunter) _ (fun _ _ => by simp) _ _).trans (by simp),
      (foldl_keeps (fun u : State => u.sli.lastOctet) _ (fun _ _ => by simp) _ _).trans (by simp),
      (foldl_keeps (fun u : State => u.sli.replies) _ (fun _ _ => by simp) _ _).trans (by simp),
      (foldl_keeps (fun u : State => u.sli.sending) _ (fun _ _ => by simp) _ _).trans (by simp),
      (foldl_keeps (fun u : State => u.sli.reportPosition) _ (fun _ _ => by simp) _ _).trans (by simp),
      (foldl_keeps (fun u : State => u.sli.overrun) _ (fun _ _ => by simp) _ _).trans (by simp),
      (foldl_keeps (fun u : State => u.sli.controller) _ (fun _ _ => by simp) _ _).trans (by simp),
      (foldl_keeps (fun u : State => u.sli.supervision) _ (fun _ _ => by simp) _ _).trans (by simp),
      (foldl_keeps (fun u : State => settingsOf u.lines) _ (fun _ _ => by simp) _ _).trans (by simp)⟩

@[simp] theorem State.downLine_holds (s : State) (n : LineNo) :
    (s.downLine n).tones.cadences = s.tones.cadences ∧ settingsOf (s.downLine n).lines = settingsOf s.lines := by
  unfold State.downLine
  try dsimp only
  (repeat' split) <;> simp

@[simp] theorem State.downAlert_holds (s : State) (p : AlertPos) :
    (s.downAlert p).ring.capacity = s.ring.capacity ∧ (s.downAlert p).ring.clock = s.ring.clock ∧
      (s.downAlert p).power.budget = s.power.budget ∧ (s.downAlert p).tones.cadences = s.tones.cadences ∧
      settingsOf (s.downAlert p).lines = settingsOf s.lines := by
  unfold State.downAlert
  try dsimp only
  (repeat' split) <;> simp

@[simp] theorem State.downAlerts_holds (s : State) :
    (allPositions.foldl State.downAlert s).ring.capacity = s.ring.capacity ∧
      (allPositions.foldl State.downAlert s).ring.clock = s.ring.clock ∧
      (allPositions.foldl State.downAlert s).power.budget = s.power.budget ∧
      (allPositions.foldl State.downAlert s).tones.cadences = s.tones.cadences ∧
      settingsOf (allPositions.foldl State.downAlert s).lines = settingsOf s.lines := by
  exact ⟨(foldl_keeps (fun u : State => u.ring.capacity) _ (fun _ _ => by simp) _ _),
      (foldl_keeps (fun u : State => u.ring.clock) _ (fun _ _ => by simp) _ _),
      (foldl_keeps (fun u : State => u.power.budget) _ (fun _ _ => by simp) _ _),
      (foldl_keeps (fun u : State => u.tones.cadences) _ (fun _ _ => by simp) _ _),
      (foldl_keeps (fun u : State => settingsOf u.lines) _ (fun _ _ => by simp) _ _)⟩

@[simp] theorem State.downLines_holds (s : State) :
    (allLines.foldl State.downLine s).tones.cadences = s.tones.cadences ∧
      settingsOf (allLines.foldl State.downLine s).lines = settingsOf s.lines := by
  exact ⟨(foldl_keeps (fun u : State => u.tones.cadences) _ (fun _ _ => by simp) _ _),
      (foldl_keeps (fun u : State => settingsOf u.lines) _ (fun _ _ => by simp) _ _)⟩

@[simp] theorem State.takeDown_holds (s : State) :
    (s.takeDown).ring.capacity = s.ring.capacity ∧ (s.takeDown).ring.clock = s.ring.clock ∧
      (s.takeDown).power.budget = s.power.budget ∧ (s.takeDown).sli.hunter = s.sli.hunter ∧
      (s.takeDown).sli.lastOctet = s.sli.lastOctet ∧ (s.takeDown).sli.replies = s.sli.replies ∧
      (s.takeDown).sli.sending = s.sli.sending ∧ (s.takeDown).sli.reportPosition = s.sli.reportPosition ∧
      (s.takeDown).sli.overrun = s.sli.overrun ∧ (s.takeDown).sli.controller = s.sli.controller ∧
      (s.takeDown).sli.supervision = s.sli.supervision ∧ (s.takeDown).tones.cadences = s.tones.cadences ∧
      settingsOf (s.takeDown).lines = settingsOf s.lines := by
  unfold State.takeDown
  try dsimp only
  simp

@[simp] theorem State.graceExpires_holds (s : State) :
    (s.graceExpires).ring.capacity = s.ring.capacity ∧ (s.graceExpires).ring.clock = s.ring.clock ∧
      (s.graceExpires).power.budget = s.power.budget ∧ (s.graceExpires).sli.hunter = s.sli.hunter ∧
      (s.graceExpires).sli.lastOctet = s.sli.lastOctet ∧ (s.graceExpires).sli.replies = s.sli.replies ∧
      (s.graceExpires).sli.sending = s.sli.sending ∧
      (s.graceExpires).sli.reportPosition = s.sli.reportPosition ∧
      (s.graceExpires).sli.overrun = s.sli.overrun ∧ (s.graceExpires).sli.controller = s.sli.controller ∧
      (s.graceExpires).sli.supervision = s.sli.supervision ∧
      (s.graceExpires).collector.plan = s.collector.plan ∧
      (s.graceExpires).tones.cadences = s.tones.cadences ∧
      settingsOf (s.graceExpires).lines = settingsOf s.lines := by
  unfold State.graceExpires State.accounted
  split <;> simp

@[simp] theorem State.countFrame_holds (s : State) :
    (s.countFrame).sli.hunter = s.sli.hunter ∧ (s.countFrame).sli.lastOctet = s.sli.lastOctet ∧
      (s.countFrame).sli.replies = s.sli.replies ∧ (s.countFrame).sli.sending = s.sli.sending ∧
      (s.countFrame).sli.reportPosition = s.sli.reportPosition ∧ (s.countFrame).sli.overrun = s.sli.overrun := by
  unfold State.countFrame
  dsimp only
  split <;> simp

@[simp] theorem State.supervisionExpires_holds (s : State) :
    (s.supervisionExpires).sli.hunter = s.sli.hunter ∧
      (s.supervisionExpires).sli.lastOctet = s.sli.lastOctet ∧
      (s.supervisionExpires).sli.replies = s.sli.replies ∧
      (s.supervisionExpires).sli.sending = s.sli.sending ∧
      (s.supervisionExpires).sli.reportPosition = s.sli.reportPosition ∧
      (s.supervisionExpires).sli.overrun = s.sli.overrun ∧
      (s.supervisionExpires).tones.cadences = s.tones.cadences ∧
      settingsOf (s.supervisionExpires).lines = settingsOf s.lines := by
  unfold State.supervisionExpires
  try dsimp only
  (repeat' split) <;> simp

@[simp] theorem State.dropRequest_holds (s : State) :
    (s.dropRequest).sli.hunter = s.sli.hunter ∧ (s.dropRequest).sli.lastOctet = s.sli.lastOctet ∧
      (s.dropRequest).sli.replies = s.sli.replies ∧ (s.dropRequest).sli.sending = s.sli.sending ∧
      (s.dropRequest).sli.reportPosition = s.sli.reportPosition ∧
      (s.dropRequest).sli.controller = s.sli.controller ∧ (s.dropRequest).sli.supervision = s.sli.supervision := by
  unfold State.dropRequest
  try dsimp only
  simp

@[simp] theorem State.queueReply_holds (s : State) (f : Frame) :
    (s.queueReply f).sli.hunter = s.sli.hunter ∧ (s.queueReply f).sli.lastOctet = s.sli.lastOctet ∧
      (s.queueReply f).sli.sending = s.sli.sending ∧
      (s.queueReply f).sli.reportPosition = s.sli.reportPosition ∧
      (s.queueReply f).sli.overrun = s.sli.overrun ∧ (s.queueReply f).sli.controller = s.sli.controller ∧
      (s.queueReply f).sli.supervision = s.sli.supervision := by
  unfold State.queueReply
  try dsimp only
  simp

@[simp] theorem State.meetOff_holds (s : State) (n : LineNo) :
    (s.meetOff n).power.budget = s.power.budget ∧ (s.meetOff n).sli.hunter = s.sli.hunter ∧
      (s.meetOff n).sli.lastOctet = s.sli.lastOctet ∧ (s.meetOff n).sli.replies = s.sli.replies ∧
      (s.meetOff n).sli.sending = s.sli.sending ∧ (s.meetOff n).sli.reportPosition = s.sli.reportPosition ∧
      (s.meetOff n).sli.overrun = s.sli.overrun ∧ (s.meetOff n).sli.controller = s.sli.controller ∧
      (s.meetOff n).sli.supervision = s.sli.supervision ∧ (s.meetOff n).collector.plan = s.collector.plan ∧
      (s.meetOff n).tones.cadences = s.tones.cadences ∧ settingsOf (s.meetOff n).lines = settingsOf s.lines := by
  unfold State.meetOff
  try dsimp only
  (repeat' split) <;> simp

@[simp] theorem State.meetOffs_holds (s : State) :
    (s.meetOffs).power.budget = s.power.budget ∧ (s.meetOffs).sli.hunter = s.sli.hunter ∧
      (s.meetOffs).sli.lastOctet = s.sli.lastOctet ∧ (s.meetOffs).sli.replies = s.sli.replies ∧
      (s.meetOffs).sli.sending = s.sli.sending ∧ (s.meetOffs).sli.reportPosition = s.sli.reportPosition ∧
      (s.meetOffs).sli.overrun = s.sli.overrun ∧ (s.meetOffs).sli.controller = s.sli.controller ∧
      (s.meetOffs).sli.supervision = s.sli.supervision ∧ (s.meetOffs).collector.plan = s.collector.plan ∧
      (s.meetOffs).tones.cadences = s.tones.cadences ∧ settingsOf (s.meetOffs).lines = settingsOf s.lines := by
  unfold State.meetOffs
  exact ⟨(foldl_keeps (fun u : State => u.power.budget) _ (fun _ _ => by simp) _ _).trans (by simp),
      (foldl_keeps (fun u : State => u.sli.hunter) _ (fun _ _ => by simp) _ _).trans (by simp),
      (foldl_keeps (fun u : State => u.sli.lastOctet) _ (fun _ _ => by simp) _ _).trans (by simp),
      (foldl_keeps (fun u : State => u.sli.replies) _ (fun _ _ => by simp) _ _).trans (by simp),
      (foldl_keeps (fun u : State => u.sli.sending) _ (fun _ _ => by simp) _ _).trans (by simp),
      (foldl_keeps (fun u : State => u.sli.reportPosition) _ (fun _ _ => by simp) _ _).trans (by simp),
      (foldl_keeps (fun u : State => u.sli.overrun) _ (fun _ _ => by simp) _ _).trans (by simp),
      (foldl_keeps (fun u : State => u.sli.controller) _ (fun _ _ => by simp) _ _).trans (by simp),
      (foldl_keeps (fun u : State => u.sli.supervision) _ (fun _ _ => by simp) _ _).trans (by simp),
      (foldl_keeps (fun u : State => u.collector.plan) _ (fun _ _ => by simp) _ _).trans (by simp),
      (foldl_keeps (fun u : State => u.tones.cadences) _ (fun _ _ => by simp) _ _).trans (by simp),
      (foldl_keeps (fun u : State => settingsOf u.lines) _ (fun _ _ => by simp) _ _).trans (by simp)⟩

@[simp] theorem State.frameArrives_holds (s : State) :
    (s.frameArrives).ring.capacity = s.ring.capacity ∧ (s.frameArrives).power.budget = s.power.budget ∧
      (s.frameArrives).sli.hunter = s.sli.hunter ∧ (s.frameArrives).sli.lastOctet = s.sli.lastOctet ∧
      (s.frameArrives).sli.replies = s.sli.replies ∧ (s.frameArrives).sli.sending = s.sli.sending ∧
      (s.frameArrives).sli.reportPosition = s.sli.reportPosition ∧
      (s.frameArrives).sli.overrun = s.sli.overrun ∧ (s.frameArrives).collector.plan = s.collector.plan ∧
      (s.frameArrives).tones.cadences = s.tones.cadences ∧
      settingsOf (s.frameArrives).lines = settingsOf s.lines := by
  unfold State.frameArrives
  try dsimp only
  (repeat' split) <;> simp

@[simp] theorem State.frameTaken_holds (s : State) :
    (s.frameTaken).sli.lastOctet = s.sli.lastOctet ∧ (s.frameTaken).sli.replies = s.sli.replies ∧
      (s.frameTaken).sli.sending = s.sli.sending ∧ (s.frameTaken).sli.reportPosition = s.sli.reportPosition ∧
      (s.frameTaken).sli.overrun = s.sli.overrun ∧ (s.frameTaken).sli.controller = s.sli.controller ∧
      (s.frameTaken).sli.supervision = s.sli.supervision := by
  unfold State.frameTaken
  try dsimp only
  simp

@[simp] theorem State.send_holds (s : State) (f : Frame) :
    (s.send f).sli.hunter = s.sli.hunter ∧ (s.send f).sli.lastOctet = s.sli.lastOctet ∧
      (s.send f).sli.replies = s.sli.replies ∧ (s.send f).sli.reportPosition = s.sli.reportPosition ∧
      (s.send f).sli.overrun = s.sli.overrun ∧ (s.send f).sli.controller = s.sli.controller ∧
      (s.send f).sli.supervision = s.sli.supervision := by
  unfold State.send
  try dsimp only
  simp

@[simp] theorem State.beginReply_holds (s : State) :
    (s.beginReply).sli.hunter = s.sli.hunter ∧ (s.beginReply).sli.lastOctet = s.sli.lastOctet ∧
      (s.beginReply).sli.reportPosition = s.sli.reportPosition ∧ (s.beginReply).sli.overrun = s.sli.overrun ∧
      (s.beginReply).sli.controller = s.sli.controller ∧ (s.beginReply).sli.supervision = s.sli.supervision := by
  unfold State.beginReply
  try dsimp only
  (repeat' split) <;> simp

@[simp] theorem State.beginPartReport_holds (s : State) :
    (s.beginPartReport).sli.hunter = s.sli.hunter ∧ (s.beginPartReport).sli.lastOctet = s.sli.lastOctet ∧
      (s.beginPartReport).sli.replies = s.sli.replies ∧
      (s.beginPartReport).sli.reportPosition = s.sli.reportPosition ∧
      (s.beginPartReport).sli.controller = s.sli.controller ∧
      (s.beginPartReport).sli.supervision = s.sli.supervision := by
  unfold State.beginPartReport
  try dsimp only
  simp

@[simp] theorem State.freeAlert_holds (s : State) (p : AlertPos) :
    (s.freeAlert p).ring.capacity = s.ring.capacity ∧ (s.freeAlert p).ring.clock = s.ring.clock := by
  unfold State.freeAlert
  try dsimp only
  simp

@[simp] theorem State.beginAlertReport_holds (s : State) (p : AlertPos) :
    (s.beginAlertReport p).ring.capacity = s.ring.capacity ∧
      (s.beginAlertReport p).ring.clock = s.ring.clock ∧ (s.beginAlertReport p).sli.hunter = s.sli.hunter ∧
      (s.beginAlertReport p).sli.lastOctet = s.sli.lastOctet ∧
      (s.beginAlertReport p).sli.replies = s.sli.replies ∧
      (s.beginAlertReport p).sli.reportPosition = s.sli.reportPosition ∧
      (s.beginAlertReport p).sli.overrun = s.sli.overrun ∧
      (s.beginAlertReport p).sli.controller = s.sli.controller ∧
      (s.beginAlertReport p).sli.supervision = s.sli.supervision := by
  unfold State.beginAlertReport
  try dsimp only
  (repeat' split) <;> simp

@[simp] theorem State.beginBearerReport_holds (s : State) (b : BearerNo) :
    (s.beginBearerReport b).sli.hunter = s.sli.hunter ∧
      (s.beginBearerReport b).sli.lastOctet = s.sli.lastOctet ∧
      (s.beginBearerReport b).sli.replies = s.sli.replies ∧
      (s.beginBearerReport b).sli.reportPosition = s.sli.reportPosition ∧
      (s.beginBearerReport b).sli.overrun = s.sli.overrun ∧
      (s.beginBearerReport b).sli.controller = s.sli.controller ∧
      (s.beginBearerReport b).sli.supervision = s.sli.supervision := by
  unfold State.beginBearerReport
  try dsimp only
  simp

@[simp] theorem State.beginLineReport_holds (s : State) (n : LineNo) :
    (s.beginLineReport n).sli.hunter = s.sli.hunter ∧
      (s.beginLineReport n).sli.lastOctet = s.sli.lastOctet ∧
      (s.beginLineReport n).sli.replies = s.sli.replies ∧ (s.beginLineReport n).sli.overrun = s.sli.overrun ∧
      (s.beginLineReport n).sli.controller = s.sli.controller ∧
      (s.beginLineReport n).sli.supervision = s.sli.supervision ∧
      settingsOf (s.beginLineReport n).lines = settingsOf s.lines := by
  unfold State.beginLineReport
  try dsimp only
  simp

@[simp] theorem State.begin_holds (s : State) (c : Option Choice) :
    (s.begin c).ring.capacity = s.ring.capacity ∧ (s.begin c).ring.clock = s.ring.clock ∧
      (s.begin c).sli.hunter = s.sli.hunter ∧ (s.begin c).sli.lastOctet = s.sli.lastOctet ∧
      (s.begin c).sli.controller = s.sli.controller ∧ (s.begin c).sli.supervision = s.sli.supervision ∧
      settingsOf (s.begin c).lines = settingsOf s.lines := by
  unfold State.begin
  try dsimp only
  (repeat' split) <;> simp

@[simp] theorem State.endFrame_holds (s : State) :
    (s.endFrame).ring.capacity = s.ring.capacity ∧ (s.endFrame).ring.clock = s.ring.clock ∧
      (s.endFrame).sli.hunter = s.sli.hunter ∧ (s.endFrame).sli.lastOctet = s.sli.lastOctet ∧
      (s.endFrame).sli.controller = s.sli.controller ∧ (s.endFrame).sli.supervision = s.sli.supervision ∧
      settingsOf (s.endFrame).lines = settingsOf s.lines := by
  unfold State.endFrame
  try dsimp only
  (repeat' split) <;> simp

end Sys2Proof.Machine
end

