-- ==== Sys2Proof/Laws/Hunting.lean ====
section
/-! SUPPORT. The laws of the receive hunter (R165): the bound on rescans is always enough, so hunting is what the rule says
it is, one octet after the other. -/

namespace Sys2Proof.Machine

/-- A number of steps that is enough for a hunter and the octets before it. -/
def Hunter.enough (h : Hunter) (octets : List Octet) : Nat :=
  (h.size + octets.length) * (h.size + octets.length) + octets.length

/-- An octet makes a hunter hold at most one more. -/
theorem Hunter.take_more {h h' : Hunter} {o : Octet} (e : h.take o = .more h') : h'.size ≤ h.size + 1 := by
  unfold Hunter.take at e
  split at e <;> (try dsimp only at e) <;> split at e <;> simp_all
  all_goals (subst e; simp [Hunter.size])

/-- A frame is complete with the octet that arrived as the last of those held. -/
theorem Hunter.take_complete {h : Hunter} {o length : Octet} {held : List Octet} (e : h.take o = .complete length held) :
    ∃ held0, h = .collecting length held0 ∧ held = held0 ++ [o] := by
  unfold Hunter.take at e
  split at e <;> (try dsimp only at e) <;> split at e <;> simp_all

/-- The outcome does not depend on the bound, once it is enough. -/
theorem Hunter.scan_fuel : ∀ (f g : Nat) (h : Hunter) (octets : List Octet), h.enough octets ≤ f → h.enough octets ≤ g →
    Hunter.scan f h octets = Hunter.scan g h octets := by
  intro f
  induction f with
  | zero =>
    intro g h octets hf _
    cases octets with
    | nil => cases g <;> rfl
    | cons o rest => simp [Hunter.enough] at hf
  | succ f ih =>
    intro g h octets hf hg
    cases octets with
    | nil => cases g <;> rfl
    | cons o rest =>
      cases g with
      | zero => simp [Hunter.enough] at hg
      | succ g =>
        simp only [Hunter.scan]
        cases ht : h.take o with
        | more h' =>
          have := Hunter.take_more ht
          have hb : h'.enough rest + 1 ≤ h.enough (o :: rest) := by
            simp only [Hunter.enough, List.length_cons]
            have : (h'.size + rest.length) * (h'.size + rest.length) ≤
              (h.size + (rest.length + 1)) * (h.size + (rest.length + 1)) := Nat.mul_le_mul (by omega) (by omega)
            omega
          exact ih g h' rest (by omega) (by omega)
        | complete length held =>
          obtain ⟨held0, rfl, rfl⟩ := Hunter.take_complete ht
          have hN : (Hunter.collecting length held0).enough (o :: rest) =
              (held0.length + rest.length + 3) * (held0.length + rest.length + 3) + (rest.length + 1) := by
            simp only [Hunter.enough, Hunter.size, List.length_cons]
            ring
          have h1 : Hunter.enough .hunting rest + 1 ≤ (Hunter.collecting length held0).enough (o :: rest) := by
            rw [hN]; simp only [Hunter.enough, Hunter.size]; nlinarith
          have h2 : Hunter.enough .hunting (length :: (held0 ++ [o]) ++ rest) + 1
              ≤ (Hunter.collecting length held0).enough (o :: rest) := by
            rw [hN]; simp only [Hunter.enough, Hunter.size, List.length_cons, List.length_append, List.length_nil]
            nlinarith
          dsimp only
          cases completedFrame length (held0 ++ [o]) with
          | none => exact ih g _ _ (by omega) (by omega)
          | some fr =>
            dsimp only
            rw [ih g .hunting rest (by omega) (by omega)]

/-- The bound that hunting uses is enough. -/
theorem Hunter.enough_le_scanFuel (h : Hunter) (octets : List Octet) : h.enough octets ≤ scanFuel h octets := by
  unfold Hunter.enough scanFuel
  nlinarith

/-- Any bound that is enough hunts. -/
theorem Hunter.scan_eq_hunt {f : Nat} {h : Hunter} {octets : List Octet} (hf : h.enough octets ≤ f) :
    Hunter.scan f h octets = h.hunt octets :=
  Hunter.scan_fuel _ _ _ _ hf (Hunter.enough_le_scanFuel h octets)

/-- Hunting over no octets leaves the hunter where it stands. -/
@[simp] theorem Hunter.hunt_nil (h : Hunter) : h.hunt [] = (h, []) := by
  unfold Hunter.hunt
  cases scanFuel h [] <;> rfl

/-- R165: hunting over one octet and the rest. -/
theorem Hunter.hunt_cons (h : Hunter) (o : Octet) (rest : List Octet) :
    h.hunt (o :: rest) =
      match h.take o with
      | .more h' => h'.hunt rest
      | .complete length held =>
        match completedFrame length held with
        | some f => ((Hunter.hunt .hunting rest).1, f :: (Hunter.hunt .hunting rest).2)
        | none => Hunter.hunt .hunting (length :: held ++ rest) := by
  have key (k : Nat) : h.hunt (o :: rest) = Hunter.scan (h.enough (o :: rest) + k + 1) h (o :: rest) :=
    (Hunter.scan_eq_hunt (by omega)).symm
  cases ht : h.take o with
  | more h' =>
    rw [key (h'.enough rest)]
    simp only [Hunter.scan, ht]
    exact Hunter.scan_eq_hunt (by omega)
  | complete length held =>
    dsimp only
    cases hc : completedFrame length held with
    | some f =>
      rw [key (Hunter.enough .hunting rest)]
      simp only [Hunter.scan, ht, hc]
      rw [Hunter.scan_eq_hunt (h := .hunting) (octets := rest) (by omega)]
    | none =>
      rw [key (Hunter.enough .hunting (length :: held ++ rest))]
      simp only [Hunter.scan, ht, hc]
      exact Hunter.scan_eq_hunt (by omega)

end Sys2Proof.Machine
end

