-- ==== Sys2Proof/Laws/Records.lean ====
section
/-! SUPPORT. What the shared operations make of one record: the line record that a change of tone, a timer, an event, a
return to IDLE, an entry to CLEARING or to LOCKOUT leaves, and when two states are equal record by record. -/

namespace Sys2Proof.Machine

/-- Two states are equal if their records are. -/
theorem State.ext_of {s t : State} (pending : s.pending = t.pending) (now : s.now = t.now) (fresh : s.fresh = t.fresh)
    (straps : s.straps = t.straps) (periods : s.periods = t.periods) (scanner : s.scanner = t.scanner)
    (line : ∀ n, s.line n = t.line n) (collector : s.collector = t.collector) (pool : s.pool = t.pool)
    (ring : s.ring = t.ring) (power : s.power = t.power) (tones : s.tones = t.tones) (test : s.test = t.test)
    (highway : s.highway = t.highway) (sli : s.sli = t.sli) (mode : s.mode = t.mode) : s = t := by
  have lines : s.lines = t.lines := by
    apply Vector.ext
    intro i hi
    exact line ⟨i, hi⟩
  cases s
  cases t
  simp_all

/-- A state with some fields replaced, read at a line. -/
theorem State.line_eq {s t : State} (h : s.lines = t.lines) (n : LineNo) : s.line n = t.line n := by
  unfold State.line
  rw [h]

@[simp] theorem State.line_setTone (s : State) (n m : LineNo) (t : Option ToneKind) :
    (s.setTone n t).line m = if m = n then { s.line n with tone := t } else s.line m := by
  rw [State.setTone_eq]
  exact State.line_modLine s n m fun r => { r with tone := t }

@[simp] theorem State.line_startTimer (s : State) (n m : LineNo) (k : TimerKind) (ms : Nat) :
    (s.startTimer n k ms).line m =
      if m = n then { s.line n with timer := some { kind := k, expires := s.now + ms } } else s.line m :=
  State.line_modLine s n m _

@[simp] theorem State.line_stopTimer (s : State) (n m : LineNo) :
    (s.stopTimer n).line m = if m = n then { s.line n with timer := none } else s.line m :=
  State.line_modLine s n m _

@[simp] theorem State.line_addLineEvent (s : State) (n m : LineNo) (k : LineEvent) :
    (s.addLineEvent n k).line m =
      if m = n then { s.line n with events := addKind LineEvent.all k (s.line n).events } else s.line m :=
  State.line_modLine s n m _

@[simp] theorem State.line_joinRoll (s : State) (n m : LineNo) (c : Feed) :
    (s.joinRoll n c).line m = if m = n then { s.line n with feed := c } else s.line m :=
  State.line_modLine _ n m _

@[simp] theorem State.line_leaveRoll (s : State) (n m : LineNo) :
    (s.leaveRoll n).line m = if m = n then { s.line n with feed := .sense } else s.line m :=
  State.line_modLine _ n m _

@[simp] theorem State.power_leaveRoll (s : State) (n : LineNo) :
    (s.leaveRoll n).power = { s.power with roll := s.power.roll.erase n } := rfl

/-- A change that keeps every tone field keeps what a later change of tone does to the sources. -/
theorem State.setTone_tones_modLine (s : State) (n m : LineNo) (f : LineRecord → LineRecord)
    (h : (f (s.line n)).tone = (s.line n).tone) (t : Option ToneKind) :
    ((s.modLine n f).setTone m t).tones = (s.setTone m t).tones := by
  apply State.setTone_tones_congr <;> simp
  intro k
  split <;> simp_all

/-- R37: the record of a line that has returned to IDLE. -/
@[simp] theorem State.line_toIdle (s : State) (n m : LineNo) :
    (s.toIdle n).line m =
      if m = n then LineRecord.idled { s.line n with tone := none, feed := .sense } else s.line m := by
  unfold State.toIdle
  simp only [State.line_modLine, State.line_leaveRoll, State.line_setTone, if_true]
  split <;> rfl

@[simp] theorem State.tones_toIdle (s : State) (n : LineNo) : (s.toIdle n).tones = (s.setTone n none).tones := by
  simp [State.toIdle]

@[simp] theorem State.power_toIdle (s : State) (n : LineNo) :
    (s.toIdle n).power = { s.power with roll := s.power.roll.erase n } := by
  simp [State.toIdle]

/-- R32 to R34: the record of a line that has entered CLEARING. -/
@[simp] theorem State.line_toClearing (s : State) (n m : LineNo) (t : Option ToneKind) (k : LineEvent) :
    (s.toClearing n t k).line m =
      if m = n then
        { s.line n with
          callState := .clearing, bearer := none, tone := t
          timer := some { kind := .clearing, expires := s.now + 1000 * s.periods.clearing }
          events := addKind LineEvent.all k (s.line n).events }
      else s.line m := by
  simp only [State.toClearing, State.line_addLineEvent, State.line_startTimer, State.line_setTone, State.line_modLine,
    State.setTone_keeps, State.modLine_keeps, if_true]
  split <;> rfl

@[simp] theorem State.tones_toClearing (s : State) (n : LineNo) (t : Option ToneKind) (k : LineEvent) :
    (s.toClearing n t k).tones = (s.setTone n t).tones := by
  simp only [State.toClearing, State.addLineEvent_keeps, State.startTimer_keeps]
  exact State.setTone_tones_modLine s n n _ rfl t

/-- R35: the record of a line that has entered LOCKOUT. -/
@[simp] theorem State.line_toLockout (s : State) (n m : LineNo) :
    (s.toLockout n).line m =
      if m = n then
        { s.line n with
          callState := .lockout, feed := .sense, tone := some .howler
          timer := some { kind := .howler, expires := s.now + 20000 }
          events := addKind LineEvent.all .lockout (s.line n).events }
      else s.line m := by
  simp only [State.toLockout, State.line_addLineEvent, State.line_startTimer, State.line_setTone, State.line_modLine,
    State.line_leaveRoll, State.setTone_keeps, State.modLine_keeps, State.leaveRoll_keeps, if_true]
  split <;> rfl

@[simp] theorem State.tones_toLockout (s : State) (n : LineNo) :
    (s.toLockout n).tones = (s.setTone n (some .howler)).tones := by
  simp only [State.toLockout, State.addLineEvent_keeps, State.startTimer_keeps]
  apply State.setTone_tones_congr
  · intro m
    simp only [State.line_modLine, State.line_leaveRoll]
    split <;> simp_all
  · simp
  · simp

@[simp] theorem State.power_toLockout (s : State) (n : LineNo) :
    (s.toLockout n).power = { s.power with roll := s.power.roll.erase n } := by
  simp [State.toLockout]

end Sys2Proof.Machine
end

