-- ==== Sys2Proof/Laws/Serving.lean ====
section
/-! SUPPORT. The laws of requests: a request's command is the completion of a frame, a request that finds a place in the
reply queue is served and answered, and serving takes no command from the queue. -/

namespace Sys2Proof.Machine

/-! ### The command of a request -/

/-- A request's command completes a valid frame that carries it. -/
theorem exec_request {c : Instr} {r : Request} {s : State} (hr : c.request = some r) :
    exec c s = .next (s.frameTaken.completeFrame (Request.serve r)) := by
  cases c <;> simp only [Instr.request, reduceCtorEq, Option.some.injEq] at hr <;> subst hr <;> rfl

/-- Neither the wake, the count nor an OFF transition that the frame has overtaken touches the reply queue. -/
theorem State.frameArrives_replies (s : State) : s.frameArrives.sli.replies = s.sli.replies :=
  by simp

/-- A request that finds a place is served, and its reply joins the queue. -/
theorem State.completeFrame_of_room {s : State} (h : s.sli.replies.length < 4) (serve : State → State × Frame) :
    s.frameTaken.completeFrame serve =
      (serve s.frameTaken.frameArrives).1.queueReply (serve s.frameTaken.frameArrives).2 := by
  have h' : ¬ Config.replyPlaces ≤ s.frameTaken.frameArrives.sli.replies.length := by
    rw [State.frameArrives_replies]; exact Nat.not_le.2 h
  unfold State.completeFrame
  dsimp only
  rw [if_neg h']

/-- A request that finds four replies waiting is dropped. -/
theorem State.completeFrame_of_full {s : State} (h : 4 ≤ s.sli.replies.length) (serve : State → State × Frame) :
    s.frameTaken.completeFrame serve = s.frameTaken.frameArrives.dropRequest := by
  have h' : Config.replyPlaces ≤ s.frameTaken.frameArrives.sli.replies.length := by
    rw [State.frameArrives_replies]; exact h
  unfold State.completeFrame
  dsimp only
  rw [if_pos h']

/-! ### Serving keeps the queue of commands -/

theorem State.takeLines_pending (one : State → LineNo → State × Nat) (h : ∀ s n, (one s n).1.pending = s.pending) (ns : List LineNo) : ∀ s : State, (s.takeLines one ns).1.pending = s.pending := by
  induction ns with
  | nil => intro s; rfl
  | cons n ns ih => intro s; simp [State.takeLines, ih, h]

theorem State.serveLines_pending (t : Octet) (one : State → LineNo → State × Nat) (h : ∀ s n, (one s n).1.pending = s.pending) (ns : List Nat) (s : State) : (s.serveLines t one ns).1.pending = s.pending := by
  unfold State.serveLines
  (repeat' split) <;> simp [State.takeLines_pending one h]

theorem State.unblockBearer_pending (s t : State) (b : BearerNo) (h : s.unblockBearer b = some t) : t.pending = s.pending := by
  unfold State.unblockBearer at h
  revert h
  (repeat' split) <;> intro h <;> simp at h <;> subst h <;> simp

theorem State.bearerForAlert_pending (s t : State) (b : BearerNo) (h : s.bearerForAlert = some (b, t)) : t.pending = s.pending := by
  unfold State.bearerForAlert at h
  revert h
  (repeat' split) <;> intro h <;> simp at h <;> obtain ⟨_, h⟩ := h <;> subst h <;> simp

theorem State.acceptAlert_pending (s : State) (p a) : (s.acceptAlert p a).pending = s.pending := by
  unfold State.acceptAlert
  simp
  exact foldl_keeps _ _ (fun _ _ => by simp [State.alertMember]) _ _ |>.trans (by simp)

theorem Request.serve_pending (r : Request) (s : State) : (Request.serve r s).1.pending = s.pending := by
  cases r <;> unfold Request.serve <;> dsimp only
  case partQuery => rfl
  case lineQuery => unfold State.serveLineQuery; split <;> rfl
  case bearerQuery => unfold State.serveBearerQuery; split <;> rfl
  case lineConfig => unfold State.serveLineConfig; (repeat' split) <;> simp
  case energize => 
    unfold State.serveEnergize; apply State.serveLines_pending; intro s n; unfold State.energizeOne; (repeat' split) <;> simp
  case deenergize => 
    unfold State.serveDeenergize; apply State.serveLines_pending; intro s n; unfold State.deenergizeOne; (repeat' split) <;> simp
  case clear => 
    unfold State.serveClear State.endHeld
    (repeat' split) <;> simp_all
    rename_i h
    revert h
    split <;> intro h <;> simp at h <;> subst h <;> simp
  case alert =>
    unfold State.serveAlert State.offerAlert
    (repeat' split) <;> simp_all [State.acceptAlert_pending]
    rename_i h
    exact State.bearerForAlert_pending _ _ _ h
  case cancelAlert =>
    unfold State.serveCancelAlert State.accounted
    (repeat' split) <;> simp_all
  case blockBearer =>
    unfold State.serveBlockBearer State.blockBearer State.blockNow State.blockLater State.leaveFreeList
    (repeat' split) <;> simp_all
  case unblockBearer =>
    unfold State.serveUnblockBearer
    (repeat' split) <;> simp_all
    rename_i h
    exact State.unblockBearer_pending _ _ _ h
  case testBearer =>
    unfold State.serveTestBearer State.startTest State.leaveFreeList
    dsimp only
    (repeat' split) <;> simp_all
  case setPower =>
    unfold State.serveSetPower State.setPower State.setBudget State.setCapacity
    dsimp only
    (repeat' split) <;> simp
  case setTimers =>
    unfold State.serveSetTimers State.setPeriods
    dsimp only
    (repeat' split) <;> simp
  case loadPlan =>
    unfold State.serveLoadPlan 
    (repeat' split) <;> simp
  case loadCadence =>
    unfold State.serveLoadCadence State.storeCadence
    dsimp only
    (repeat' split) <;> simp
  case conserve =>
    unfold State.serveConserve State.enterConserve
    (repeat' split) <;> simp
  case restart => rfl
  case unknown => rfl

theorem State.completeFrame_pending (s : State) (f : State → State × Frame) (h : ∀ t, (f t).1.pending = t.pending) : (s.completeFrame f).pending = s.pending := by
  unfold State.completeFrame
  dsimp only
  split <;> simp [h]

theorem State.takeFrame_pending (s : State) (f) : (s.takeFrame f).pending = s.pending := State.completeFrame_pending _ _ (Request.serve_pending _)

theorem State.takeOctets_pending (s : State) (h : Hunter) (os) : (s.takeOctets h os).pending = s.pending := by
  unfold State.takeOctets
  exact foldl_keeps State.pending _ (fun _ _ => State.takeFrame_pending _ _) _ _

end Sys2Proof.Machine
end

