-- ==== Sys2Proof/Tests/Slice0.lean ====
section
/-! SUPPORT. The model's own tests: ill-formed commands that the well-formedness check refuses, single steps whose
results stand in the manual, and for each statement that has hypotheses a concrete state and operands that meet them. -/

namespace Sys2Proof.Tests

set_option Elab.async false

open Sys2Proof.Machine

/-! ### Helpers -/

/-- The state a command leaves. -/
def after (c : Instr) (s : State) : State :=
  match exec c s with
  | .next t => t
  | .fault _ => s
  | .refused _ => s

/-- A part in service: highway UP with every bearer FREE, every line IDLE, the controller PRESENT, nothing pending. -/
def inService : State :=
  { State.reset with
    lines := Vector.replicate 24 { LineRecord.initial with callState := .idle, feed := .sense }
    scanner := { State.reset.scanner with energizeList := [], groupTimer := none }
    pool := { bearers := Vector.replicate 6 { BearerRecord.initial with state := .free, downReason := none }
              freeList := [0, 1, 2, 3, 4, 5], queue := [] }
    highway := { Highway.initial with state := .up }
    ring := { Ring.initial with windowTaken := true }
    sli := { Sli.initial with controller := .present, events := [] } }

/-- A part in service with line 0 in a call state. -/
def lineIn (c : CallState) : State :=
  inService.modLine 0 fun r => { r with callState := c }

/-- Line 0 in a call state, on hook since 1000 ms and about to end a break of `b` ms. -/
def breaking (c : CallState) (b : Nat) : State :=
  { (lineIn c).modScan 0 fun r =>
      { r with runCount := 2, runStart := some (1000 + b), lastTransition := some 1000 } with now := 1008 + b }

/-- A part in service with a change of bearer 0. -/
def bearerWith (f : BearerRecord → BearerRecord) : State :=
  inService.modBearer 0 f

/-- A part in service whose bearer 0 is under a test and whose free list is empty. -/
def underTest (yields : Bool) : State :=
  { bearerWith fun r => { r with state := .testing } with
    pool := { (bearerWith fun r => { r with state := .testing }).pool with freeList := [] }
    test := some
      { bearer := 0, duration := 5, threshold := 3, inject := true, yields := yields, began := 0, locked := true
        errorCount := 3, generator := 0x7FFF, invertNext := false, sentBit := none, injections := 0
        checker := Checker.hunting } }

/-- Alert 7 for line 5, with bearer 0. -/
def alertSeven (st : AlertState) : AlertRecord :=
  { number := 7, target := .line 5, members := [5], dropped := [], cadence := 4, timeout := 60, state := st
    phase := if st = .placed then some 0 else none, bearer := 0, answering := none, cause := none, load := 1
    reportPending := true, expires := if st = .queued ∨ st = .placed then some 60000 else none, burst := none }

/-- A part in service with alert 7 in table position 0. -/
def withAlert (st : AlertState) : State :=
  let s := bearerWith fun r => { r with state := .reserved, holder := some (.alert 7) }
  { s.modLine 5 fun r => { r with callState := .alerted, alert := some 7 } with
    pool := { s.pool with freeList := [1, 2, 3, 4, 5] }
    ring := { inService.ring with
      alerts := inService.ring.alerts.set 0 (some (alertSeven st))
      accepted := [0]
      placed := if st = .placed then [0] else [] } }

/-- A part that conserves. -/
def conserving : State :=
  { inService with mode := { mode := .conserve, wakeCause := .none, limit := some 5000 } }

/-- A part in service with a reply waiting. -/
def withReply : State :=
  { inService with sli := { inService.sli with replies := [{ type := 0x81, body := [0] }] } }

/-! ### Well-formedness refuses -/

theorem test_wf_octet : (Instr.lineQuery 256).wf = false ∧ (Instr.bearerQuery 256).wf = false
    ∧ (Instr.cancelAlert 256).wf = false ∧ (Instr.blockBearer 256).wf = false
    ∧ (Instr.unblockBearer 256).wf = false := by decide +kernel

theorem test_wf_line_config : (Instr.lineConfig 256 0 0 0 0 0).wf = false ∧ (Instr.lineConfig 0 256 0 0 0 0).wf = false
    ∧ (Instr.lineConfig 0 0 256 0 0 0).wf = false ∧ (Instr.lineConfig 0 0 0 256 0 0).wf = false
    ∧ (Instr.lineConfig 0 0 0 0 256 0).wf = false ∧ (Instr.lineConfig 0 0 0 0 0 256).wf = false := by decide +kernel

theorem test_wf_clear : (Instr.clear 256 0).wf = false ∧ (Instr.clear 0 256).wf = false := by decide +kernel

theorem test_wf_alert : (Instr.alert 256 0 0 0 0).wf = false ∧ (Instr.alert 0 256 0 0 0).wf = false
    ∧ (Instr.alert 0 0 256 0 0).wf = false ∧ (Instr.alert 0 0 0 256 0).wf = false
    ∧ (Instr.alert 0 0 0 0 256).wf = false := by decide +kernel

theorem test_wf_test_bearer : (Instr.testBearer 256 0 0 0 0).wf = false ∧ (Instr.testBearer 0 256 0 0 0).wf = false
    ∧ (Instr.testBearer 0 0 256 0 0).wf = false ∧ (Instr.testBearer 0 0 0 256 0).wf = false
    ∧ (Instr.testBearer 0 0 0 0 256).wf = false := by decide +kernel

theorem test_wf_set_power : (Instr.setPower 65536 0).wf = false ∧ (Instr.setPower 0 256).wf = false := by decide +kernel

theorem test_wf_set_timers : (Instr.setTimers 256 0 0 0 0 0).wf = false ∧ (Instr.setTimers 0 256 0 0 0 0).wf = false
    ∧ (Instr.setTimers 0 0 256 0 0 0).wf = false ∧ (Instr.setTimers 0 0 0 256 0 0).wf = false
    ∧ (Instr.setTimers 0 0 0 0 256 0).wf = false ∧ (Instr.setTimers 0 0 0 0 0 256).wf = false := by decide +kernel

theorem test_wf_lists : (Instr.energize [256]).wf = false ∧ (Instr.deenergize [256]).wf = false
    ∧ (Instr.energize (List.replicate 250 0)).wf = false ∧ (Instr.deenergize (List.replicate 250 0)).wf = false := by decide +kernel

theorem test_wf_load_plan : (Instr.loadPlan 1 []).wf = false ∧ (Instr.loadPlan 256 []).wf = false
    ∧ (Instr.loadPlan 1 [{ leading := [256], length := 1, cls := 0 }]).wf = false
    ∧ (Instr.loadPlan 1 [{ leading := [1], length := 256, cls := 0 }]).wf = false
    ∧ (Instr.loadPlan 1 [{ leading := [1], length := 1, cls := 256 }]).wf = false
    ∧ (Instr.loadPlan 1 [{ leading := List.replicate 256 0, length := 1, cls := 0 }]).wf = false := by decide +kernel

theorem test_wf_load_plan_fits : (Instr.loadPlan 1 [{ leading := List.replicate 246 0, length := 1, cls := 0 }]).wf = false
    := by decide +kernel

theorem test_wf_load_cadence : (Instr.loadCadence 256 [10]).wf = false ∧ (Instr.loadCadence 0 [65536]).wf = false
    ∧ (Instr.loadCadence 0 (List.replicate 124 10)).wf = false := by decide +kernel

theorem test_wf_conserve : (Instr.conserve 65536).wf = false := by decide +kernel

theorem test_wf_frame_discarded : (Instr.frameDiscarded []).wf = false ∧ (Instr.frameDiscarded [0, 1, 2]).wf = false
    ∧ (Instr.frameDiscarded [1, 1]).wf = false ∧ (Instr.frameDiscarded [1, 1, 0, 0]).wf = true := by decide +kernel

/-! ### Frames -/

/-- R164: the check of the digits 1 to 9 under this polynomial, start value and bit order is the well-known 29B1h. -/
theorem test_check_octets : checkOf [0x31, 0x32, 0x33, 0x34, 0x35, 0x36, 0x37, 0x38, 0x39] = 0x29B1 := by decide +kernel

/-- R164, R173, Table 11-6: the frame of SET_POWER for 300 PU and 6 RU, its check aside. -/
theorem test_set_power_frame : ((requestFrame (.setPower 300 6)).octets).take 6 = [0xA5, 4, 0x18, 0x01, 0x2C, 0x06] := by
  decide +kernel

/-- R167: a body of the wrong length is a malformed record. -/
theorem test_wrong_length : Frame.request { type := 0x1F, body := [0] } = .unknown 0x1F
    ∧ Frame.request { type := 0x42, body := [] } = .unknown 0x42 := by decide +kernel

/-- Table 11-9: a reply of 27 octets takes about 28 ms at 9600 bit/s. -/
theorem test_reply_time : State.reset.straps.frameMs { type := 0x81, body := List.replicate 22 0 } = 28 := by decide +kernel

/-! ### Single steps, with results that stand in the manual -/

/-- R172: STARTED is the only pending part event, and STAGGER = 1 leaves the energize list empty. -/
theorem test_power_on : (after (.powerOn true false 2) inService).sli.events = [.started]
    ∧ (after (.powerOn true false 2) inService).scanner.energizeList = [] := by decide +kernel

/-- R170: a PART_QUERY reply shows the set without changing it. -/
theorem test_part_query : ((after .partQuery inService).sli.replies.map fun f => (f.type, f.body.length)) = [(0x81, 22)]
    ∧ (after .partQuery State.reset).sli.events = [.started, .controllerBack] := by decide +kernel

/-- R42: a line number above 23 is BAD_TARGET. -/
theorem test_line_query : (after (.lineQuery 24) inService).sli.replies = [{ type := 0x82, body := [2] }] := by
  decide +kernel

theorem test_bearer_query :
    ((after (.bearerQuery 3) inService).sli.replies.map Frame.body) =
      [[0, 0, 3, 0, 0xFF, 0, 0xFF, 0, 0, 0xFF, 0, 0, 6, 0, 1, 2, 3, 4, 5, 0]] := by decide +kernel

/-- R41: a ringer load above 5 becomes 5 and an alert group above 31 is stored as absent. -/
theorem test_line_config : ((after (.lineConfig 4 1 9 40 1 1) inService).line 4).ringerLoad = 5
    ∧ ((after (.lineConfig 4 1 9 40 1 1) inService).line 4).alertGroup = none := by decide +kernel

/-- R18: a number that appears twice is APPENDED, then ALREADY_LISTED; an energized line is ALREADY_ENERGIZED. -/
theorem test_energize :
    ((after (.energize [0, 0, 1]) (lineIn .deenergized)).sli.replies.map Frame.body) = [[0, 0, 0, 0, 1, 1, 2]] := by
  decide +kernel

/-- R19: an IDLE line is DEENERGIZED, a line in another state is BUSY. -/
theorem test_deenergize :
    ((after (.deenergize [1, 0]) (lineIn .dial)).sli.replies.map Frame.body) = [[0, 1, 0, 0, 3]] := by decide +kernel

/-- R19: a line whose OFF transition has been declared in IDLE is BUSY, and the transition is not lost. -/
theorem test_deenergize_after_off :
    let s := after (.deenergize [0, 1]) { inService with scanner := { inService.scanner with handed := [.off 0] } }
    s.sli.replies.map Frame.body = [[0, 0, 3, 1, 0]] ∧ s.scanner.handed = [.off 0]
      ∧ ((s.takeHanded (.off 0)).line 0).callState = .dial := by decide +kernel

/-- R33: the reply carries the call state in which the request was taken. -/
theorem test_clear : ((after (.clear 0 2) (lineIn .dial)).line 0).tone = some .busy
    ∧ ((after (.clear 0 2) (lineIn .dial)).sli.replies.map Frame.body) = [[0, 0, 3]] := by decide +kernel

/-- R92: an accepted ALERT reserves the bearer at the head of the free list. -/
theorem test_alert : ((after (.alert 7 0 5 4 60) inService).bearer 0).holder = some (.alert 7)
    ∧ ((after (.alert 7 0 5 4 60) inService).line 5).callState = .alerted := by decide +kernel

/-- R91: three sets of 3, 2 and 2 RU in a group: with 6 RU the third is the first misfit and is dropped. -/
theorem test_group_alert :
    let s := ((inService.modLine 2 fun r => { r with alertGroup := some 1, ringerLoad := 3 }).modLine 3 fun r =>
      { r with alertGroup := some 1, ringerLoad := 2 }).modLine 9 fun r => { r with alertGroup := some 1, ringerLoad := 2 }
    s.select (s.candidates (.group 1)) = some { members := [2, 3], dropped := [9], load := 5 } := by decide +kernel

/-- R104, R105: a cancelled alert gives its member and its bearer back. -/
theorem test_cancel_alert : ((after (.cancelAlert 7) (withAlert .queued)).line 5).callState = .idle
    ∧ (after (.cancelAlert 7) (withAlert .queued)).pool.freeList = [1, 2, 3, 4, 5, 0] := by decide +kernel

/-- Table 4-4: a FREE bearer leaves the free list; a BUSY one keeps its call and the block waits. -/
theorem test_block_bearer : (after (.blockBearer 2) inService).pool.freeList = [0, 1, 3, 4, 5]
    ∧ ((after (.blockBearer 0) (bearerWith fun r => { r with state := .busy })).bearer 0).blockPending = true := by
  decide +kernel

/-- Table 4-5: UNBLOCK_BEARER of a FREE bearer is refused with WRONG_STATE. -/
theorem test_unblock_bearer : ((after (.unblockBearer 2) inService).sli.replies.map Frame.body) = [[4, 2, 0, 0]] := by
  decide +kernel

/-- R137: the duration is clamped to 60 s and the bearer leaves the free list. -/
theorem test_test_bearer : (after (.testBearer 1 99 3 0 1) inService).pool.freeList = [0, 2, 3, 4, 5]
    ∧ ((after (.testBearer 1 99 3 0 1) inService).test.map TestContext.duration) = some 60 := by decide +kernel

/-- R121: a budget above 600 gives 600 and a ring capacity of 0 gives 1. -/
theorem test_set_power : (after (.setPower 601 0) inService).power.budget = 600
    ∧ (after (.setPower 601 0) inService).ring.capacity = 1 := by decide +kernel

/-- R2: 3 gives 2, 5 to 7 give 4. R153: 1 to 4 give 5. -/
theorem test_set_timers : (after (.setTimers 3 10 5 10 30 4) inService).periods.sample = 2
    ∧ (after (.setTimers 7 10 5 10 30 4) inService).periods.supervision = 5 := by decide +kernel

/-- R58: a length shorter than its own prefix gives the prefix length. -/
theorem test_load_plan :
    (after (.loadPlan 1 [{ leading := [0, 10], length := 1, cls := 2 }]) inService).collector.plan =
      [{ leading := [.num 0, .star], length := 2, cls := .barred }] := by decide +kernel

/-- Table 7-3, rows of entries 6 and 7. -/
theorem test_load_cadence : (after (.loadCadence 6 [800, 400, 1200, 300]) inService).tones.cadences[6] = [800, 400, 800]
    ∧ (after (.loadCadence 7 [9, 1999, 5]) inService).tones.cadences[7] = [10, 1990] := by decide +kernel

/-- R123: the base falls to 8 PU in the entry action. -/
theorem test_conserve : (after (.conserve 60) inService).committed = 8
    ∧ (after (.conserve 60) inService).mode.limit = some 60000 := by decide +kernel

theorem test_restart : (after .restart inService).sli.replies = [{ type := 0x9F, body := [0] }]
    ∧ (after .restart inService).sli.controller = .lost := by decide +kernel

theorem test_unknown_request : (after (.unknownRequest 0x42) inService).sli.replies = [{ type := 0xC2, body := [1] }] := by
  decide +kernel

/-- R165: a start octet inside a discarded frame is found again. -/
theorem test_frame_discarded : (after (.frameDiscarded [1, 0xA5, 0, 0]) inService).sli.hunter = .hunting
    ∧ (after (.frameDiscarded [1, 1, 0, 0xA5]) inService).sli.hunter = .awaitLength := by decide +kernel

theorem test_receive_gap :
    (after .receiveGap { inService with sli := { inService.sli with hunter := .awaitLength } }).sli.hunter = .hunting := by
  decide +kernel

theorem test_reply_transmit : (after .replyTransmit withReply).sli.replies = []
    ∧ (after .replyTransmit withReply).sli.sending ≠ none := by decide +kernel

/-- R170: STARTED is bit 0 and leaves the set as the report begins. -/
theorem test_part_report : (after .partReport State.reset).sli.events = []
    ∧ ((after .partReport State.reset).sli.sending.map fun f => f.frame.body.take 2) = some [0, 1] := by decide +kernel

/-- R89: an ALERT_REPORT that carries a final state frees the record. -/
theorem test_alert_report : (after .alertReport (withAlert .noAnswer)).alertAt 0 = none
    ∧ (after .alertReport (withAlert .queued)).alertAt 0 ≠ none := by decide +kernel

theorem test_bearer_report :
    ((after .bearerReport (bearerWith fun r => { r with events := [.testEnded] })).sli.sending.map fun f =>
      f.frame.body.take 2) = some [4, 0] := by decide +kernel

/-- R43: the flash count is set to 0 as the report begins; FLASH is bit 6. -/
theorem test_line_report :
    let s := inService.modLine 3 fun r => { r with events := [.flash], flashCount := 2 }
    ((after .lineReport s).line 3).flashCount = 0
      ∧ ((after .lineReport s).sli.sending.map fun f => f.frame.body.take 4) = some [0, 0, 0x40, 3] := by decide +kernel

theorem test_frame_sent :
    (after .frameSent { inService with sli := { inService.sli with
      sending := some { frame := { type := 0x41, body := [] }, ends := 0 } } }).sli.sending = none := by decide +kernel

/-- R2, R3: the third disagreeing sample declares the transition, dated to the first. The first sample of a line is taken
at the first sample instant, at 4 ms, and the instant that follows samples it once more, not twice at 4 ms. -/
theorem test_sample_instant : ((after (.sampleInstant 0 .off) (breaking .idle 5000)).scan 0).lastTransition = some 6000
    ∧ (let s := after (.sampleInstant 1 .off) { inService with now := 4 }
       (s.scan 1).runCount = 1 ∧ ((after (.sampleInstant 1 .off) s).scan 1).runCount = 1 ∧
        ((after (.sampleInstant 1 .off) { s with now := 8 }).scan 1).runCount = 2) := by decide +kernel

/-- R37: an ANSWER whose alert was cancelled before it was taken is an origination of the line, which is back in IDLE. -/
theorem test_sample_hands_answer_over :
    let s := after (.sampleInstant 5 .off)
      { (withAlert .placed).modScan 5 fun r => { r with runCount := 2, runStart := some 92 } with now := 100 }
    s.scanner.handed = [.answer 5 7] ∧ (s.line 5).callState = .alerted
      ∧ ((after (.cancelAlert 7) s).line 5).callState = .idle
      ∧ (((after (.cancelAlert 7) s).takeHanded (.answer 5 7)).line 5).callState = .dial := by decide +kernel

/-- R12: in a release state the release point is the ON timestamp plus 1000 ms; in IDLE there is none. -/
theorem test_on_transition :
    let s := { (lineIn .dial).modScan 0 fun r => { r with hook := .off, runStart := some 40 } with now := 48 }
    let u := { (lineIn .idle).modScan 0 fun r => { r with hook := .off, runStart := some 40 } with now := 48 }
    ((after (.onTransition 0) s).scan 0).releasePoint = some 1040
      ∧ ((after (.onTransition 0) u).scan 0).releasePoint = none := by decide +kernel

/-- R7: a break of 60 ms in DIAL is a pulse, and the gap point is the OFF timestamp plus 250 ms. R10: one of 500 ms in
CONNECTED is a FLASH. -/
theorem test_off_transition : ((after (.offTransition 0) (breaking .dial 60)).scan 0).gapPoint = some 1310
    ∧ ((after (.offTransition 0) (breaking .connected 500)).line 0).events = [.flash] := by decide +kernel

theorem test_debounce_run_fails : ((after (.debounceRunFails 0) (breaking .dial 60)).scan 0).runStart = none := by
  decide +kernel

/-- R37: RELEASE takes the line to IDLE with RELEASED pending. -/
theorem test_release_point :
    let s := (lineIn .clearing).modScan 0 fun r => { r with releasePoint := some 1000 }
    ((after (.releasePointReached 0) s).line 0).callState = .idle
      ∧ ((after (.releasePointReached 0) s).line 0).events = [.released] := by decide +kernel

/-- R8: ten pulses are the digit 0, eleven are a MISDIAL. -/
theorem test_gap_point :
    let s := fun k => (lineIn .dial).modScan 0 fun r => { r with hook := .off, pulseCount := k, gapPoint := some 0 }
    ((after (.gapPointReached 0) (s 10)).line 0).digits = [.num 0]
      ∧ ((after (.gapPointReached 0) (s 11)).line 0).events = [.dialError] := by decide +kernel

/-- R16: lines 0 to 3 first, and the timer restarts at 250 ms. -/
theorem test_group_timer : (after .groupTimerExpiry State.reset).scanner.energizeList.length = 20
    ∧ ((after .groupTimerExpiry State.reset).line 3).callState = .idle
    ∧ ((after .groupTimerExpiry State.reset).line 4).callState = .deenergized := by decide +kernel

/-- R53: a digit event from a FREE receiver is discarded. -/
theorem test_receiver_digit :
    let s := { (lineIn .dial).modLine 0 fun r => { r with receiver := some 1 } with
      collector := { inService.collector with receivers := #v[none, some 0, none, none] } }
    ((after (.receiverDigit 1 (.digit .star)) s).line 0).digits = [.star] ∧ after (.receiverDigit 0 .hash) s = s := by
  decide +kernel

/-- Line 0 in a call state with a state timer. -/
def timed (c : CallState) (k : TimerKind) : State :=
  (lineIn c).modLine 0 fun r => { r with timer := some { kind := k, expires := 0 } }

/-- R35: the howler timer starts at 20 s. -/
theorem test_first_digit_timeout : ((after (.firstDigitTimeout 0) (timed .dial .firstDigit)).line 0).timer =
    some { kind := .howler, expires := 20000 } := by decide +kernel

/-- R61, step 4: the number is complete whatever its length, and a bearer is granted. -/
theorem test_interdigit_timeout : ((after (.interdigitTimeout 0) (timed .dial .interdigit)).line 0).bearer = some 0 := by
  decide +kernel

theorem test_receiver_wait_timeout :
    ((after (.receiverWaitTimeout 0) (timed .dial .wait)).line 0).events = [.receiverTimeout] := by decide +kernel

theorem test_queue_wait_timeout :
    ((after (.queueWaitTimeout 0) (timed .waitBearer .wait)).line 0).events = [.queueTimeout] := by decide +kernel

theorem test_clearing_timeout :
    ((after (.clearingTimeout 0) (timed .clearing .clearing)).line 0).callState = .lockout := by decide +kernel

theorem test_howler_timeout : ((after (.howlerTimeout 0) (timed .lockout .howler)).line 0).timer = none
    ∧ ((after (.howlerTimeout 0) (timed .lockout .howler)).line 0).callState = .lockout := by decide +kernel

/-- R103, R105: the alert ends NO_ANSWER. -/
theorem test_ring_timeout :
    ((after (.ringTimeout 0) (withAlert .placed)).alertAt 0).map AlertRecord.state = some .noAnswer
      ∧ (after (.ringTimeout 0) (withAlert .placed)).ring.placed = [] := by decide +kernel

/-- R94, Table 7-1: entry 4 rings for 1000 ms from the window start. -/
theorem test_phase_window_start :
    ((after (.phaseWindowStart 0) (withAlert .placed)).alertAt 0).bind AlertRecord.burst =
      some { segments := [1000], segment := 0, ends := 1000 } := by decide +kernel

theorem test_ring_segment_end :
    ((after (.ringSegmentEnd 0) (after (.phaseWindowStart 0) (withAlert .placed))).alertAt 0).bind AlertRecord.burst = none
    := by decide +kernel

/-- R127: BUSY tone goes from its on segment to its off segment. -/
theorem test_tone_segment_end :
    (after (.toneSegmentEnd .busy) { inService with tones := { inService.tones with
      busy := some { segment := 0, began := 0 } } }).tones.busy = some { segment := 1, began := 500 } := by decide +kernel

/-- R141: a count equal to the threshold passes. -/
theorem test_test_duration_expiry : ((after .testDurationExpiry (underTest true)).bearer 0).outcome = .pass
    ∧ (after .testDurationExpiry (underTest true)).pool.freeList = [0] := by decide +kernel

theorem test_test_injection : ((after .testInjection (underTest true)).test.map TestContext.invertNext) = some true := by
  decide +kernel

/-- R140: BIT_ERROR counts while LOCKED, LOCK_LOST keeps the count. -/
theorem test_bit_error : ((after .bitError (underTest true)).test.map TestContext.errorCount) = some 4
    ∧ ((after .lockLost (underTest true)).test.map fun t => (t.locked, t.errorCount)) = some (false, 3) := by decide +kernel

theorem test_lock : ((after .lock (after .lockLost (underTest true))).test.map TestContext.locked) = some true := by
  decide +kernel

/-- R147: the restore timer runs for 100 ms. -/
theorem test_frame_pulse : (after .framePulse State.reset).highway.restore = some 100 := by decide +kernel

/-- R148: loss while UP. -/
theorem test_highway_loss : (after .highwayLoss inService).highway.state = .hit
    ∧ (after .highwayLoss inService).highway.grace = some 2000 := by decide +kernel

/-- R151: after power-on the free list is 0, 1, 2, 3, 4, 5. -/
theorem test_highway_restore : (after .highwayRestore (after .framePulse State.reset)).pool.freeList = [0, 1, 2, 3, 4, 5] := by
  decide +kernel

/-- R149: no bearer is FREE, and an outstanding alert ends ABORTED with cause HIGHWAY. -/
theorem test_grace_timer_expiry :
    let s := { withAlert .queued with highway := { state := .hit, grace := some 2000, restore := none, lossFrom := none } }
    (after .graceTimerExpiry s).pool.freeList = []
      ∧ ((after .graceTimerExpiry s).alertAt 0).bind AlertRecord.cause = some .highway := by decide +kernel

/-- R154: each line of the seizure queue goes to CLEARING with CONGESTION. -/
theorem test_supervision_timeout :
    let s := { lineIn .waitBearer with
      pool := { inService.pool with freeList := [], queue := [(0, .normal)] }
      sli := { inService.sli with supervision := some 30000 } }
    (after .supervisionTimeout s).sli.controller = .lost ∧ ((after .supervisionTimeout s).line 0).tone = some .congestion := by
  decide +kernel

/-- R123, R161: the wake brings the base back to 20 PU. -/
theorem test_limit_timer_expiry : (after .limitTimerExpiry conserving).mode.mode = .active
    ∧ (after .limitTimerExpiry conserving).committed = 20 ∧ conserving.committed = 8 := by decide +kernel

/-- R165: A5h in HUNTING is a start octet. -/
theorem test_octet_received : (after (.octetReceived 0xA5) inService).sli.hunter = .awaitLength
    ∧ (after (.octetReceived 0xA4) inService).sli.hunter = .hunting := by decide +kernel

/-! ### Witnesses: for each statement with hypotheses, states and operands that meet those of each clause -/

open Sys2Proof.Slice0

/-- What holds of every alert record of a part that has none. -/
theorem no_alerts {u : State} (h : ∀ p, u.alertAt p = none) {P : AlertPos → AlertRecord → Prop} :
    ∀ p a, u.alertAt p = some a → P p a := by
  intro p a e
  rw [h p] at e
  cases e

/-- What holds of the one alert record of a part that has it alone in position 0. -/
theorem one_alert {u : State} {x : AlertRecord} (h0 : u.alertAt 0 = some x) (h : ∀ p, p ≠ 0 → u.alertAt p = none)
    {P : AlertPos → AlertRecord → Prop} (hx : P 0 x) : ∀ p a, u.alertAt p = some a → P p a := by
  intro p a e
  by_cases hp : p = 0
  · subst hp
    rw [h0] at e
    cases e
    exact hx
  · rw [h p hp] at e
    cases e

theorem witness_StepRunsTheFrontCommand :
    ({ inService with pending := [.partQuery, .restart] } : State).pending = .partQuery :: [.restart] := rfl

/-- Nothing is due in a part that nothing happens in. -/
theorem nothing_due {s : State} (hl : ∀ n, (s.line n).timer = none ∧ (s.line n).events = [])
    (hs : ∀ n, (s.scan n).releasePoint = none ∧ (s.scan n).gapPoint = none) (hb : ∀ b, (s.bearer b).events = [])
    (ha : ∀ p, s.alertAt p = none) (ht : ∀ k, s.tones.source k = none)
    (hr : s.scanner.unsampled = [] ∧ s.scanner.groupTimer = none ∧ s.ring.windowTaken = true)
    (hh : s.highway.lossFrom = none ∧ s.highway.restore = none ∧ s.highway.grace = none)
    (hq : s.sli.hunter = .hunting ∧ s.sli.sending = none ∧ s.sli.supervision = none ∧ s.sli.replies = [] ∧
      s.sli.events = [])
    (hm : ∀ x, s.mode.limit = some x → s.now < x) (hw : ∀ t, s.test = some t → s.now < 1000 ∧ 1 ≤ t.duration) :
    ∀ c, ¬ isDue s c := by
  obtain ⟨h1, h2, h3⟩ := hr
  obtain ⟨h4, h5, h6⟩ := hh
  obtain ⟨h7, h8, h9, h10, h11⟩ := hq
  intro c h
  cases c <;> simp only [isDue, timesOut, hl, hs, hb, ha, ht, h1, h2, h3, h4, h5, h6, h7, h8, h9, h10, h11, reduceCtorEq,
    ne_eq, not_true, false_and, and_false, exists_false, List.not_mem_nil, Bool.true_eq_false] at h
  · obtain ⟨t, ht, h⟩ := h
    have := hw t ht
    omega
  · obtain ⟨t, ht, _, h, _⟩ := h
    have := hw t ht
    omega
  · obtain ⟨_, x, hx, h⟩ := h
    have := hm x hx
    omega

/-- A part in service that has signals of hook transitions waiting. -/
def signalled (s : State) (l : List Handed) : State :=
  { s with scanner := { s.scanner with handed := l } }

theorem witness_IdleStepTakesDueEventOrMillisecond :
    (State.reset.pending = [] ∧ State.reset = atInstant State.reset ∧ isDue State.reset .partReport) ∧
    (signalled inService [.off 0] = atInstant (signalled inService [.off 0]) ∧
      (signalled inService [.off 0]).scanner.handed ≠ []) ∧
    ((∀ c, ¬ isDue inService c) ∧ inService = atInstant inService ∧ inService.pending = [] ∧
      inService.scanner.handed = [] ∧ inService.test = none ∧ inService.mode.mode = .active) ∧
    ((∀ c, ¬ isDue conserving c) ∧ conserving = atInstant conserving ∧ conserving.scanner.handed = [] ∧
      conserving.test = none ∧ conserving.mode.mode = .conserve) ∧
    ((∀ c, ¬ isDue (underTest true) c) ∧ underTest true = atInstant (underTest true) ∧
      (underTest true).scanner.handed = [] ∧ (underTest true).test ≠ none) ∧
    (let s := ({ inService with now := 4 } : State)
     (atInstant s).scanner.unsampled = allLines ∧ isDue (atInstant s) (.sampleInstant 23 .on)) :=
  ⟨⟨rfl, rfl, rfl, rfl, by decide +kernel⟩, ⟨rfl, by decide +kernel⟩,
   ⟨nothing_due (by decide +kernel) (by decide +kernel) (by decide +kernel) (by decide +kernel) (fun k => by cases k <;> rfl)
      (by decide +kernel) (by decide +kernel) (by decide +kernel) (fun _ h => nomatch h) (fun _ h => nomatch h),
    rfl, rfl, rfl, rfl, rfl⟩,
   ⟨nothing_due (by decide +kernel) (by decide +kernel) (by decide +kernel) (by decide +kernel) (fun k => by cases k <;> rfl)
      (by decide +kernel) (by decide +kernel) (by decide +kernel) (fun _ h => by cases h; decide) (fun _ h => nomatch h),
    rfl, rfl, rfl, rfl⟩,
   ⟨nothing_due (by decide +kernel) (by decide +kernel) (by decide +kernel) (by decide +kernel) (fun k => by cases k <;> rfl)
      (by decide +kernel) (by decide +kernel) (by decide +kernel) (fun _ h => nomatch h)
      (fun _ h => by cases h; decide), rfl, rfl, by decide +kernel⟩,
   by decide +kernel, by decide +kernel, rfl⟩

theorem witness_HunterTakesOctets :
    inService.sli.hunter = .hunting ∧ (0xA5 : Octet) = 0xA5 ∧ (0xA4 : Octet) ≠ 0xA5 ∧
    (1 ≤ (1 : Octet).toNat ∧ (1 : Octet).toNat ≤ 250) ∧ (1 ≤ (250 : Octet).toNat ∧ (250 : Octet).toNat ≤ 250) ∧
    ((0 : Octet).toNat = 0 ∧ 251 ≤ (251 : Octet).toNat) ∧
    ([] : List Octet).length + 1 ≠ (1 : Octet).toNat + 2 ∧
    (let f : Frame := { type := 1, body := [] }
     (1 : Octet).toNat = f.body.length + 1 ∧
      (1 :: (checkOctets (checkOf [1, 1])).take 1) ++ (checkOctets (checkOf [1, 1])).drop 1 =
        f.type :: f.body ++ checkOctets (checkOf ((1 : Octet) :: f.type :: f.body))) ∧
    (1 ≤ (1 : Octet).toNat ∧ [(1 : Octet), 0].length + 1 = (1 : Octet).toNat + 2 ∧
      checkOctets (checkOf ((1 : Octet) :: ([1, 0] ++ [0]).take 1)) ≠ ([(1 : Octet), 0] ++ [0]).drop 1) := by decide +kernel

theorem witness_DiscardedOctetsAreTakenAgain :
    (∀ o ∈ [(1 : Octet), 0], o ≠ 0xA5) ∧ ({ type := 1, body := List.replicate 249 0 } : Frame).body.length < 250 := by
  decide +kernel

theorem witness_RequestReceivedOctetByOctet :
    (Instr.lineQuery 255).request = some (.lineQuery 255) ∧ (Request.lineQuery 255).wf = true ∧
    (∀ t, Request.lineQuery 255 ≠ .unknown t) ∧ inService.sli.hunter = .hunting :=
  ⟨rfl, by decide +kernel, nofun, rfl⟩

theorem witness_RequestFrameReadsBack :
    (Request.setPower 65535 255).wf = true ∧ ∀ t, Request.setPower 65535 255 ≠ .unknown t :=
  ⟨by decide +kernel, nofun⟩

/-- A part in service whose reply queue is full. -/
def fullQueue : State :=
  { inService with sli := { inService.sli with replies := List.replicate 4 { type := 0x81, body := [0] } } }

theorem witness_FrameCompletionWakesCountsAndDrops :
    (inService.mode.mode = .active ∧ (inService.line 0).callState = .idle) ∧
    (conserving.mode.mode = .conserve ∧ conserving.scanner.handed = []) ∧
    (let s := signalled conserving [.off 0]
     s.mode.mode = .conserve ∧ s.scanner.handed = [.off 0] ∧ ((frameWoken s).line 0).callState = .idle) ∧
    (let s := signalled (conserving.modLine 0 fun r => { r with callState := .deenergized }) [.off 0]
     s.mode.mode = .conserve ∧ s.scanner.handed = [.off 0] ∧ ((frameWoken s).line 0).callState ≠ .idle) ∧
    (Instr.restart.request = some .restart ∧ 4 ≤ fullQueue.sli.replies.length) := by decide +kernel

/-- Three replies wait, so a request finds the last place. -/
theorem witness_QueriesAndMalformedRecordsChangeNothing :
    ({ inService with sli := { inService.sli with
      replies := List.replicate 3 { type := 0x81, body := [0] } } } : State).sli.replies.length < 4 := by decide +kernel

theorem witness_LineConfigWritesFiveFieldsOrRefuses :
    inService.sli.replies.length < 4 ∧
    (((arrived (lineIn .dial)).line 0).callState ≠ .deenergized ∧ ((arrived (lineIn .dial)).line 0).callState ≠ .idle) ∧
    ((arrived inService).line 0).callState = .idle ∧
    ((arrived (lineIn .deenergized)).line 0).callState = .deenergized := by decide +kernel

theorem witness_EnergizeAndDeenergizeTakeLinesInOrder :
    inService.sli.replies.length < 4 ∧ 24 < (List.replicate 25 0).length ∧
    (1 ≤ [24].length ∧ [24].length ≤ 24 ∧ ∃ v ∈ [24], 24 ≤ v) ∧ (1 ≤ allLines.length ∧ allLines.length ≤ 24) := by
  decide +kernel

theorem witness_ClearEndsWhatTheLineHolds :
    inService.sli.replies.length < 4 ∧
    (((arrived inService).line 0).callState ≠ .dial ∧ ((arrived inService).line 0).callState ≠ .waitBearer ∧
      ((arrived inService).line 0).callState ≠ .connected) ∧
    ((arrived (lineIn .dial)).line 0).callState = .dial ∧
    ((arrived (lineIn .waitBearer)).line 0).callState = .waitBearer ∧
    (((arrived (lineIn .connected)).line 0).callState = .connected ∧
      ((arrived (lineIn .connected)).line 0).bearer = none) ∧
    (let s := (lineIn .connected).modLine 0 fun r => { r with bearer := some 2 }
     ((arrived s).line 0).callState = .connected ∧ ((arrived s).line 0).bearer = some 2) := by decide +kernel

/-- A part in service whose alert table is full. -/
def fullTable : State :=
  { inService with ring := { inService.ring with alerts := Vector.replicate 8 (some (alertSeven .noAnswer)) } }

theorem witness_AlertChecksRefuseInOrder :
    inService.sli.replies.length < 4 ∧
    (∀ p, (arrived fullTable).alertAt p ≠ none) ∧
    ((∃ p, (arrived inService).alertAt p = none) ∧ (∀ p, (arrived inService).alertAt p = none)) ∧
    (arrived (withAlert .noAnswer)).alertAt 0 = some (alertSeven .noAnswer) ∧ (alertSeven .noAnswer).number = 7 ∧
    ((arrived (lineIn .dial)).line 0).callState ≠ .idle ∧
    (∀ n, ((arrived inService).line n).callState = .idle → ((arrived inService).line n).alertGroup ≠ some 31) ∧
    (((arrived inService).line 23).callState = .idle ∧
      (let u := arrived { inService with power := { inService.power with budget := 25 } }
       u.power.budget < u.committed + 6) ∧
      (let u := arrived { inService with
        power := { inService.power with budget := 26 }, highway := { inService.highway with state := .down } }
       u.committed + 6 ≤ u.power.budget ∧ u.highway.state = .down) ∧
      (let u := arrived { inService with
        power := { inService.power with budget := 26 }, pool := { inService.pool with freeList := [] } }
       u.committed + 6 ≤ u.power.budget ∧ u.pool.freeList = [] ∧ u.test = none) ∧
      (arrived (underTest false)).pool.freeList = [] ∧
      (arrived (underTest false)).test.map TestContext.yields = some false) := by decide +kernel

theorem witness_AlertAcceptanceReservesAndAlerts :
    (inService.sli.replies.length < 4 ∧ (arrived inService).alertAt 0 = none ∧
      (∀ q : AlertPos, q < 0 → (arrived inService).alertAt q ≠ none) ∧
      (∀ p a, (arrived inService).alertAt p = some a → a.number ≠ 255) ∧
      (arrived inService).select ((arrived inService).candidates (.line 23)) =
        some { members := [23], dropped := [], load := 1 } ∧
      (arrived inService).committed + 6 ≤ (arrived inService).power.budget ∧ (arrived inService).highway.state ≠ .down ∧
      (arrived inService).pool.freeList = [0, 1, 2, 3, 4, 5]) ∧
    ((arrived (underTest true)).pool.freeList = [] ∧
      (arrived (underTest true)).test.map TestContext.yields = some true) := by
  refine ⟨⟨by decide +kernel, by decide +kernel, by decide +kernel, no_alerts (by decide +kernel), ?_⟩, ?_⟩ <;>
    decide +kernel

theorem witness_CancelAndRingTimeoutEndAnAlert :
    inService.sli.replies.length < 4 ∧
    (∀ p a, (arrived inService).alertAt p = some a → a.number ≠ 0) ∧
    ((arrived (withAlert .placed)).alertAt 0 = some (alertSeven .placed) ∧
      (∀ q b, q < 0 → (arrived (withAlert .placed)).alertAt q = some b → b.number ≠ (alertSeven .placed).number)) ∧
    ((arrived (withAlert .answered)).alertAt 0 = some (alertSeven .answered)) ∧
    ((withAlert .queued).alertAt 0 = some (alertSeven .queued) ∧ (alertSeven .queued).expires = some 60000) ∧
    ((alertSeven .answered).expires = none) :=
  ⟨by decide +kernel, no_alerts (by decide +kernel),
   ⟨by decide +kernel, fun q _ hq => absurd hq (by revert q; decide +kernel)⟩, by decide +kernel, by decide +kernel,
   by decide +kernel⟩

theorem witness_BlockBearerActsByBearerState :
    inService.sli.replies.length < 4 ∧
    ((arrived inService).bearer 5).state = .free ∧
    ((arrived (bearerWith fun r => { r with state := .busy })).bearer 0).state = .busy ∧
    ((arrived (bearerWith fun r => { r with state := .reserved })).bearer 0).state = .reserved ∧
    (((arrived State.reset).bearer 0).state = .down ∧ ((arrived State.reset).bearer 0).downReason ≠ some .testFailed) ∧
    (((arrived (underTest true)).bearer 0).state = .testing ∧
      ((arrived (underTest true)).test.map TestContext.bearer) = some 0) ∧
    ((arrived (bearerWith fun r => { r with state := .blocked })).bearer 0).state = .blocked ∧
    (let s := bearerWith fun r => { r with state := .down, downReason := some .testFailed }
     ((arrived s).bearer 0).state = .down ∧ ((arrived s).bearer 0).downReason = some .testFailed) := by decide +kernel

theorem witness_UnblockBearerActsByBearerState :
    inService.sli.replies.length < 4 ∧
    (let s := bearerWith fun r => { r with state := .blocked }
     ((arrived s).bearer 0).state = .blocked ∧ (arrived s).highway.state ≠ .down) ∧
    (let s := { bearerWith fun r => { r with state := .blocked } with highway := Highway.initial }
     ((arrived s).bearer 0).state = .blocked ∧ (arrived s).highway.state = .down) ∧
    (let s := bearerWith fun r => { r with state := .down, downReason := some .testFailed }
     ((arrived s).bearer 0).state = .down ∧ ((arrived s).bearer 0).downReason = some .testFailed) ∧
    (let s := bearerWith fun r => { r with state := .busy, blockPending := true }
     ((arrived s).bearer 0).state = .busy ∧ ((arrived s).bearer 0).blockPending = true) ∧
    (let s := bearerWith fun r => { r with state := .reserved }
     ((arrived s).bearer 0).state = .reserved ∧ ((arrived s).bearer 0).blockPending = false) ∧
    ((arrived inService).bearer 0).state = .free := by decide +kernel

theorem witness_BearerEntersFreeByTheEntryRule :
    ((bearerWith fun r => { r with blockPending := true }).bearer 0).blockPending = true ∧
    ((inService.bearer 0).blockPending = false ∧ inService.pool.queue = []) ∧
    ({ inService with pool := { inService.pool with queue := [(3, .normal)] } } : State).pool.queue = (3, .normal) :: [] := by
  decide +kernel

theorem witness_TestBearerChecksThenStarts :
    inService.sli.replies.length < 4 ∧ (arrived (underTest false)).test ≠ none ∧ (arrived inService).test = none ∧
    ((arrived (bearerWith fun r => { r with state := .busy })).bearer 0).state = .busy ∧
    ((arrived (bearerWith fun r => { r with state := .blocked })).bearer 0).state = .blocked ∧
    ((arrived inService).bearer 0).state = .free := by decide +kernel

/-- Alert 7 is PLACED with a load of 3, in a part of a ring capacity. -/
def ringing (capacity : Nat) : State :=
  { withAlert .placed with ring := { (withAlert .placed).ring with
    alerts := inService.ring.alerts.set 0 (some { alertSeven .placed with load := 3 }), capacity := capacity } }

/-- A part of a budget with line 0 DENIED and waiting for feed, its ceiling as given. -/
def waitingForFeed (c : Ceiling) (budget : Nat) : State :=
  { (lineIn .denied).modLine 0 fun r => { r with ceiling := c } with
    power := { inService.power with waitList := [0], budget := budget } }

/-- A part of a budget with line 0 in DIAL, drawing REDUCED. -/
def drawingReduced (budget : Nat) : State :=
  { (lineIn .dial).modLine 0 fun r => { r with feed := .reduced } with
    power := { inService.power with roll := [0], budget := budget } }

/-- The base is 20 PU: 29 PU is the least budget that admits a waiting line with FULL, 26 the least with REDUCED; line 0
drawing REDUCED makes it 26, and 29 is the least budget for its FULL. -/
theorem witness_SetPowerTakesItsSteps :
    (inService.sli.replies.length < 4 ∧ min 600 80 = (arrived inService).power.budget ∧
      max 1 (min 12 6) = (arrived inService).ring.capacity ∧
      (arrived inService).committed ≤ min 600 80 ∧ (arrived inService).power.overcommit = false) ∧
    (∀ p, inService.phaseLoad p ≤ inService.ring.capacity) ∧
    (let s := ringing 2
     s.ring.capacity < s.phaseLoad 0 ∧ s.ring.placed = [] ++ 0 :: [] ∧
      s.alertAt 0 = some { alertSeven .placed with load := 3 } ∧ (∀ q : PhaseNo, ¬ q < 0)) ∧
    ((withAlert .queued).alertAt 0 = some (alertSeven .queued) ∧ (ringing 3).phaseLoad 0 ≤ (ringing 3).ring.capacity) ∧
    ((waitingForFeed .full 29).power.waitList = 0 :: [] ∧ ((waitingForFeed .full 29).line 0).ceiling = .full ∧
      (waitingForFeed .full 29).committed + 9 ≤ (waitingForFeed .full 29).power.budget) ∧
    ((waitingForFeed .full 28).power.budget < (waitingForFeed .full 28).committed + 9 ∧
      ((waitingForFeed .reduced 26).line 0).ceiling = .reduced ∧
      (waitingForFeed .reduced 26).committed + 6 ≤ (waitingForFeed .reduced 26).power.budget) ∧
    ((waitingForFeed .full 25).power.budget < (waitingForFeed .full 25).committed + 6 ∧
      (waitingForFeed .full 25).ring.accepted.Nodup) ∧
    ((drawingReduced 29).power.waitList = [] ∧ (drawingReduced 29).tryPlacement = drawingReduced 29 ∧
      (drawingReduced 29).power.roll = [] ++ 0 :: [] ∧ ((drawingReduced 29).line 0).feed = .reduced ∧
      ((drawingReduced 29).line 0).ceiling = .full ∧
      (drawingReduced 29).committed + 3 ≤ (drawingReduced 29).power.budget) ∧
    (drawingReduced 28).power.budget < (drawingReduced 28).committed + 3 ∧
    ((drawingReduced 25).power.budget < (drawingReduced 25).committed ∧ (drawingReduced 25).power.overcommit = false) ∧
    (let s := { inService with power := { inService.power with overcommit := true } }
     s.committed ≤ s.power.budget ∧ s.power.overcommit = true) ∧
    (inService.power.overcommit = true ↔ inService.power.budget < inService.committed) := by
  decide +kernel

/-- A part in service with line 0 drawing FULL on the roll and a budget one short of the total. -/
def overBudget : State :=
  { lineIn .dial |>.modLine 0 fun r => { r with feed := .full } with
    power := { inService.power with roll := [0], budget := 28 } }

theorem witness_SheddingTakesRingingThenFeedLatestFirst :
    inService.committed ≤ inService.power.budget ∧
    (let s := { withAlert .placed with power := { inService.power with budget := 28 } }
     s.power.budget < s.committed ∧ s.ring.placed = [] ++ [0] ∧ s.alertAt 0 = some (alertSeven .placed)) ∧
    (overBudget.power.budget < overBudget.committed ∧ overBudget.ring.placed = [] ∧
      overBudget.power.roll = [] ++ 0 :: [] ∧ (overBudget.line 0).feed = .full) ∧
    (let s := { inService with power := { inService.power with budget := 19 } }
     s.power.budget < s.committed ∧ s.ring.placed = [] ∧ s.power.roll = []) := by decide +kernel

theorem witness_SetTimersClampsAndWritesPeriods :
    inService.sli.replies.length < 4 ∧ (arrived inService).periods.supervision = max 5 (min 255 30) ∧
    (arrived inService).periods.supervision ≠ 0 := by decide +kernel

/-- Sixteen entries, each with a prefix of its own. -/
def sixteenRows : List PlanRow :=
  (List.range 16).map fun v => { leading := [v / 4, v % 4], length := 30, cls := v % 3 }

theorem witness_LoadPlanReplacesThePlanOrIsRefused :
    inService.sli.replies.length < 4 ∧
    (sixteenRows.length ≤ 16 ∧ (∀ e ∈ sixteenRows, rowAllowed e) ∧ (sixteenRows.map PlanRow.leading).Nodup) ∧
    16 < (sixteenRows ++ [({ leading := [9], length := 1, cls := 0 } : PlanRow)]).length ∧
    ¬ rowAllowed { leading := [11], length := 1, cls := 0 } := by
  unfold rowAllowed
  decide +kernel

theorem witness_LoadCadenceAppliesLegalSegments :
    inService.sli.replies.length < 4 ∧ 4 < [10, 10, 10, 10, 10].length ∧
    (1 ≤ [1500, 509].length ∧ ([1500, 509].map fun d => max 10 (min 2000 d) / 10 * 10).sum ≤ 2000) ∧
    2000 < ([1500, 510].map fun d => max 10 (min 2000 d) / 10 * 10).sum := by decide +kernel

theorem witness_ConserveEntersWhenQuietElseNamesBlockers :
    inService.sli.replies.length < 4 ∧ quiet (arrived inService) ∧ ¬ quiet (arrived State.reset) := by
  unfold quiet
  decide +kernel

theorem witness_RestartResetsAndKeepsConfiguration : inService.sli.replies.length < 4 := by decide +kernel

theorem witness_ReplyOrPartReportBegins :
    (withReply.sli.sending = none ∧ withReply.sli.replies = { type := 0x81, body := [0] } :: []) ∧
    (State.reset.sli.sending = none ∧ State.reset.sli.replies = [] ∧ State.reset.sli.events ≠ []) ∧
    (inService.sli.replies = [] ∧ inService.sli.events = []) := by decide +kernel

theorem witness_AlertReportBegins :
    ((withAlert .queued).sli.sending = none ∧ (withAlert .queued).sli.replies = [] ∧ (withAlert .queued).sli.events = [] ∧
      (withAlert .queued).alertAt 0 = some (alertSeven .queued) ∧ (alertSeven .queued).reportPending = true ∧
      ∀ q b, q < 0 → (withAlert .queued).alertAt q = some b → b.reportPending = false) ∧
    ((withAlert .cancelled).alertAt 0 = some (alertSeven .cancelled)) ∧
    (∀ p a, inService.alertAt p = some a → a.reportPending = false) :=
  ⟨⟨rfl, rfl, rfl, by decide +kernel, rfl, fun q _ hq => absurd hq (by revert q; decide +kernel)⟩, by decide +kernel,
   no_alerts (by decide +kernel)⟩

/-- With the position at 23 the first line in turn is 0 and the last is 23. -/
theorem witness_BearerOrLineReportBegins :
    (inService.sli.sending = none ∧ inService.sli.replies = [] ∧ inService.sli.events = [] ∧
      (∀ p a, inService.alertAt p = some a → a.reportPending = false)) ∧
    (let s := inService.modBearer 5 fun r => { r with events := [.blocked] }
     (s.bearer 5).events ≠ [] ∧ ∀ c, c < 5 → (s.bearer c).events = []) ∧
    (∀ b, (inService.bearer b).events = []) ∧ (∀ n, (inService.line n).events = []) ∧
    (let s := inService.modLine 23 fun r => { r with events := [.flash] }
     (s.line (s.sli.reportPosition + 1 + 23)).events ≠ [] ∧
      ∀ j, j < (23 : LineNo) → (s.line (s.sli.reportPosition + 1 + j)).events = []) := by
  refine ⟨⟨rfl, rfl, rfl, no_alerts (by decide +kernel)⟩, ?_⟩
  decide +kernel

/-- A part whose transmitter is sending. -/
def busySending (s : State) : State :=
  { s with sli := { s.sli with sending := some { frame := { type := 0x42, body := [] }, ends := 31 } } }

theorem witness_FrameSentChoosesAgain :
    inService.sli.sending = none ∧ (busySending inService).sli.sending ≠ none ∧
    (busySending withReply).sli.replies ≠ [] ∧
    ((busySending State.reset).sli.replies = [] ∧ (busySending State.reset).sli.events ≠ []) ∧
    ((busySending (withAlert .queued)).sli.events = [] ∧
      (busySending (withAlert .queued)).alertAt 0 = some (alertSeven .queued)) ∧
    (∃ b, ((busySending (bearerWith fun r => { r with events := [.testEnded] })).bearer b).events ≠ []) ∧
    (∃ n, ((busySending (inService.modLine 3 fun r => { r with events := [.flash] })).line n).events ≠ []) := by
  decide +kernel

/-- Line 0 of `breaking` has a transition declared, dated to the end of a break of `b` ms. -/
theorem breaking_closes (c : CallState) (b : Nat) : closing (breaking c b) 0 (1000 + b) :=
  ⟨rfl, rfl, Or.inl rfl⟩

/-- The break of `breaking` measures `b` ms. -/
theorem breaking_measures (c : CallState) (b : Nat) : measures (breaking c b) 0 (1000 + b) b :=
  ⟨1000, rfl, rfl⟩

/-- Line 0 in a call state after a sample run of `k` samples, at 1000 ms. -/
def sampled (c : CallState) (h : Hook) (k : Nat) (release gap : Option Nat) : State :=
  { (lineIn c).modScan 0 fun r =>
      { r with hook := h, runCount := k, runStart := some 990, releasePoint := release, gapPoint := gap } with now := 1000 }

/-- Line 5 of alert 7 is answering. -/
def answeringIn (st : AlertState) : State :=
  { (withAlert st).modScan 5 fun r => { r with runCount := 2, runStart := some 92 } with now := 100 }

/-- Line 0 of a part that conserves, about to have an OFF transition. -/
def waking : State :=
  { conserving.modScan 0 fun r => { r with runCount := 2, runStart := some 32 } with now := 96 }

/-- The release point and the gap point are tried one past the run start, the earliest that the run began before, and at
it, the latest that it did not. -/
theorem witness_SampleInstantDebouncesTheLoop :
    ((0 : LineNo) ∉ (showing (atInstant inService) 0 .off).scanner.unsampled) ∧
    (let s := { State.reset with scanner := { State.reset.scanner with unsampled := [0] } }
     (0 : LineNo) ∈ (showing (atInstant s) 0 .off).scanner.unsampled ∧ (s.line 0).callState = .deenergized) ∧
    (let s := ({ inService with now := 4 } : State)
     (0 : LineNo) ∈ (showing (atInstant s) 0 .on).scanner.unsampled ∧ (s.line 0).callState ≠ .deenergized ∧
      (s.scan 0).hook = .on ∧ (s.scan 0).runCount = 0) ∧
    (((sampled .dial .on 1 none none).scan 0).runCount = 1 ∧
      (0 : LineNo) ∈ (showing (atInstant (sampled .dial .off 2 none none)) 0 .on).scanner.unsampled ∧
      2 ≤ ((sampled .dial .off 2 none none).scan 0).runCount) ∧
    (let s := answeringIn .placed
     (5 : LineNo) ∈ (showing (atInstant s) 5 .off).scanner.unsampled ∧ (s.scan 5).hook ≠ .off ∧
      2 ≤ (s.scan 5).runCount ∧ s.mode.mode = .active ∧ (s.line 5).callState = .alerted ∧
      (s.line 5).alert = some 7 ∧ (s.scan 5).runStart = some 92) ∧
    ((0 : LineNo) ∈ (showing (atInstant waking) 0 .off).scanner.unsampled ∧ 2 ≤ (waking.scan 0).runCount ∧
      waking.mode.mode = .conserve ∧ (waking.line 0).callState = .idle) ∧
    (let s := sampled .dial .on 2 (some 991) none
     (s.scan 0).runCount ≠ 0 ∧ (s.scan 0).runStart = some 990 ∧ (s.scan 0).releasePoint = some 991 ∧ 990 < 991 ∧
      991 ≤ s.now ∧ (s.line 0).callState.isRelease = true) ∧
    ((sampled .dial .on 2 (some 990) none).scan 0).releasePoint = some 990 ∧
    (let s := sampled .dial .off 2 none (some 991)
     (s.scan 0).hook = .off ∧ (s.scan 0).gapPoint = some 991 ∧ 991 ≤ s.now) ∧
    ((sampled .dial .off 2 none (some 1001)).scan 0).gapPoint = some 1001 := by decide +kernel

theorem witness_OnTransitionStartsABreak :
    dated (sampled .dial .off 2 none none) 0 990 ∧ dated inService 0 0 ∧
    ((signalled inService [.off 1]).scanner.handed = [.off 1] ∧ (Handed.off 1).line ≠ 0 ∧
      (signalled inService [.answer 1 7, .answer 0 7]).scanner.handed = [.answer 1 7] ++ .answer 0 7 :: [] ∧
      (Handed.answer 0 7).line = 0) ∧
    ((State.reset.line 0).callState = .deenergized ∧ (inService.scan 0).hook = .on) ∧
    (((sampled .dial .off 2 none none).line 0).callState ≠ .deenergized ∧
      ((sampled .dial .off 2 none none).scan 0).hook = .off ∧ ((sampled .dial .off 2 none none).scan 0).gapPoint = none) ∧
    ((sampled .dial .off 2 none (some 991)).scan 0).gapPoint = some 991 ∧
    ((sampled .dial .off 2 none (some 990)).scan 0).gapPoint = some 990 :=
  ⟨Or.inl rfl, Or.inr ⟨rfl, rfl⟩, by decide +kernel⟩

/-- The total is 20 PU: 29 PU is the least budget that gives FULL, 26 the least that gives REDUCED. -/
theorem witness_OffHookIsAdmittedOrDenied :
    (closing (breaking .idle 5000) 0 6000 ∧ ((breaking .idle 5000).line 0).callState = .idle) ∧
    (let budget := fun b : Nat => ({ inService with power := { inService.power with budget := b } } : State)
     ((inService.line 0).ceiling = .full ∧ (budget 29).committed + 9 ≤ (budget 29).power.budget) ∧
      ((budget 28).power.budget < (budget 28).committed + 9 ∧ (budget 26).committed + 6 ≤ (budget 26).power.budget) ∧
      (budget 25).power.budget < (budget 25).committed + 6) :=
  ⟨⟨breaking_closes .idle 5000, rfl⟩, by decide +kernel⟩

/-- Lines 1 to 4 hold the receivers and line 0 waits. -/
def receiversTaken (digits : List Digit) : State :=
  let s := lineIn .dial |>.modLine 0 fun r => { r with signalling := .tone, digits := digits }
  { s.modLine 4 fun r => { r with receiver := some 3 } with
    collector := { inService.collector with receivers := #v[some 1, some 2, some 3, some 4], waitList := [0] } }

theorem witness_DialEntryAndReceiversFollowTheWaitList :
    (inService.line 0).signalling = .pulse ∧ ((receiversTaken []).line 0).signalling = .tone ∧
    (inService.receiverLine 0 = none ∧ ∀ q : ReceiverNo, q < 0 → inService.receiverLine q ≠ none) ∧
    (∀ r, (receiversTaken []).receiverLine r ≠ none) ∧ inService.collector.waitList = [] ∧
    ((receiversTaken []).collector.waitList = 0 :: [] ∧ ((receiversTaken []).line 0).digits = []) ∧
    ((receiversTaken [.num 1]).line 0).digits ≠ [] ∧ ((receiversTaken []).line 0).receiver = none ∧
    ((receiversTaken []).line 4).receiver = some 3 := by decide +kernel

theorem witness_BreakInDialIsIgnoredCountedOrMisdial :
    (∀ b ∈ [19, 20, 120, 121, 999], closing (breaking .dial b) 0 (1000 + b) ∧ measures (breaking .dial b) 0 (1000 + b) b ∧
      ((breaking .dial b).line 0).callState = .dial) ∧
    ((breaking .dial 19).scan 0).gapPoint = none ∧
    (let s := (breaking .dial 19).modScan 0 fun r => { r with gapPoint := some 1027 }
     closing s 0 1019 ∧ measures s 0 1019 19 ∧ (s.scan 0).gapPoint = some 1027 ∧ 1027 ≤ s.now) ∧
    (let s := (breaking .dial 19).modScan 0 fun r => { r with gapPoint := some 1028 }
     closing s 0 1019 ∧ measures s 0 1019 19 ∧ (s.scan 0).gapPoint = some 1028 ∧ s.now < 1028) :=
  ⟨fun b _ => ⟨breaking_closes .dial b, breaking_measures .dial b, rfl⟩, rfl,
   ⟨⟨rfl, rfl, Or.inl rfl⟩, ⟨1000, rfl, rfl⟩, rfl, by decide +kernel⟩,
   ⟨⟨rfl, rfl, Or.inl rfl⟩, ⟨1000, rfl, rfl⟩, rfl, by decide +kernel⟩⟩

theorem witness_BreakInConnectedIsFlashOrIgnored :
    ∀ b ∈ [199, 200, 800, 801, 999], closing (breaking .connected b) 0 (1000 + b) ∧
      measures (breaking .connected b) 0 (1000 + b) b ∧ ((breaking .connected b).line 0).callState = .connected :=
  fun b _ => ⟨breaking_closes .connected b, breaking_measures .connected b, rfl⟩

theorem witness_BreakElsewhereIsIgnoredOrRelease :
    (∀ c ∈ [CallState.waitBearer, .clearing, .lockout, .denied], closing (breaking c 999) 0 1999 ∧
      measures (breaking c 999) 0 1999 999 ∧ ((breaking c 999).line 0).callState = c) ∧
    (closing (breaking .dial 1000) 0 2000 ∧ measures (breaking .dial 1000) 0 2000 1000 ∧
      ((breaking .dial 1000).line 0).callState.isRelease = true ∧
      (((breaking .dial 1000).release 0).line 0).callState = .idle) ∧
    (State.reset.line 0).callState = .deenergized ∧ ((sampled .dial .off 0 none none).scan 0).hook = .off :=
  ⟨fun c _ => ⟨breaking_closes c 999, breaking_measures c 999, rfl⟩,
   ⟨breaking_closes .dial 1000, breaking_measures .dial 1000, by decide +kernel, by decide +kernel⟩, rfl, rfl⟩

/-- The record of alert 7 alone is the outstanding alert of line 5 under its number, or not. -/
theorem witness_AnswerConnectsTheAlertedLine :
    (closing (answeringIn .placed) 5 92 ∧ ((answeringIn .placed).line 5).callState = .alerted ∧
      ((answeringIn .placed).line 5).alert = some 7 ∧ answerable (answeringIn .placed) 5 7 0 (alertSeven .placed) ∧
      answerable (answeringIn .queued) 5 7 0 (alertSeven .queued)) ∧
    (closing (answeringIn .cancelled) 5 92 ∧ unanswerable (answeringIn .cancelled) 5 7) ∧
    (unanswerable inService 5 7 ∧ (inService.line 5).callState = .idle) ∧
    (unanswerable State.reset 5 7 ∧ (State.reset.line 5).callState = .deenergized) ∧
    (unanswerable (answeringIn .placed) 5 6 ∧ answerable (answeringIn .placed) 5 7 0 (alertSeven .placed)) :=
  have first (st : AlertState) (hs : st = .queued ∨ st = .placed) (h0 : (answeringIn st).alertAt 0 = some (alertSeven st)) :
      answerable (answeringIn st) 5 7 0 (alertSeven st) :=
    ⟨h0, rfl, fun q _ hq => absurd hq (by revert q; decide), List.mem_singleton.2 rfl, hs⟩
  have placed := first .placed (Or.inr rfl) (by decide +kernel)
  ⟨⟨⟨rfl, rfl, Or.inl rfl⟩, by decide +kernel, by decide +kernel, placed, first .queued (Or.inl rfl) (by decide +kernel)⟩,
   ⟨⟨rfl, rfl, Or.inl rfl⟩,
    one_alert (x := alertSeven .cancelled) (by decide +kernel) (by decide +kernel) fun _ => Or.inl (by decide +kernel)⟩,
   ⟨no_alerts (by decide +kernel), by decide +kernel⟩, ⟨no_alerts (by decide +kernel), by decide +kernel⟩,
   one_alert (x := alertSeven .placed) (by decide +kernel) (by decide +kernel) (fun h => absurd h (by decide)), placed⟩

/-- The release point is tried one past the start of an OFF run, which began before it, and at it, which did not. -/
theorem witness_ReleasePointReleasesTheLine :
    (inService.scan 0).releasePoint = none ∧
    (((sampled .alerted .on 0 (some 1000) none).line 0).callState.isRelease = false) ∧
    (let s := sampled .dial .on 2 (some 991) none
     (s.scan 0).releasePoint = some 991 ∧ (s.line 0).callState.isRelease = true ∧ (s.scan 0).hook = .on ∧
      (s.scan 0).runStart = some 990 ∧ 990 < 991) ∧
    (∀ c ∈ [CallState.denied, .dial, .waitBearer, .clearing, .lockout],
      ((sampled c .on 2 (some 990) none).line 0).callState = c ∧
      ((sampled c .on 2 (some 990) none).scan 0).releasePoint = some 990) ∧
    (let s := (sampled .connected .on 2 (some 990) none).modLine 0 fun r => { r with bearer := some 5 }
     (s.line 0).callState = .connected ∧ (s.line 0).bearer = some 5) := by decide +kernel

theorem witness_GapPointClosesTheTrain :
    (inService.scan 0).gapPoint = none ∧
    (let s := sampled .dial .off 1 none (some 991)
     (s.scan 0).gapPoint = some 991 ∧ 990 < 991 ∧ (s.scan 0).hook = .off ∧ (s.scan 0).runStart = some 990) ∧
    (let s := sampled .dial .off 1 none (some 990)
     (s.scan 0).gapPoint = some 990 ∧ (s.scan 0).hook = .off ∧ (s.scan 0).runStart = some 990) ∧
    (let s := (breaking .dial 60).modScan 0 fun r => { r with gapPoint := some 1000 }
     (s.scan 0).gapPoint = some 1000 ∧ (s.scan 0).hook = .on ∧ (s.scan 0).lastTransition = some 1000) ∧
    ((inService.line 0).callState ≠ .dial ∧ ((lineIn .dial).scan 0).pulseCount = 0) ∧
    (∀ k ∈ [1, 9, 10, 11], (((lineIn .dial).modScan 0 fun r => { r with pulseCount := k }).scan 0).pulseCount = k) := by
  decide +kernel

theorem witness_GroupTimerEnergizesFourLines :
    inService.scanner.groupTimer = none ∧ State.reset.scanner.groupTimer ≠ none := by decide +kernel

/-- Line 0 in DIAL with receiver 3 and a number of digits dialled. -/
def dialling (digits : List Digit) : State :=
  { (lineIn .dial).modLine 0 fun r => { r with receiver := some 3, digits := digits } with
    collector := { inService.collector with receivers := #v[none, none, none, some 0] } }

/-- A part that loaded one entry for the prefix 1. -/
def planned (s : State) (cls : PlanClass) (length : Nat) : State :=
  { s with collector := { s.collector with plan := [{ leading := [.num 1], length := length, cls := cls }] } }

theorem witness_ReceiverDigitIsAppendedAndChecked :
    inService.receiverLine 3 = none ∧
    (let s := { lineIn .clearing with collector := (dialling []).collector }
     s.receiverLine 3 = some 0 ∧ (s.line 0).callState ≠ .dial) ∧
    ((dialling []).receiverLine 3 = some 0 ∧ ((dialling []).line 0).callState = .dial ∧
      ((dialling []).line 0).digits = []) ∧
    ((dialling [.num 1]).line 0).digits ≠ [] ∧ 23 ≤ ((dialling (List.replicate 23 (.num 9))).line 0).digits.length ∧
    (((dialling (List.replicate 22 (.num 9))).line 0).digits.length < 23 ∧
      lookup (dialling []).collector.plan (List.replicate 22 (.num 9) ++ [.num 1]) = none) ∧
    lookup (planned (dialling []) .barred 4).collector.plan ([] ++ [.num 1]) = some { cls := .barred, length := 4 } ∧
    (lookup (planned (dialling []) .normal 1).collector.plan ([] ++ [.num 1]) = some { cls := .normal, length := 1 } ∧
      1 ≤ ((dialling []).line 0).digits.length + 1 ∧ ((dialling []).line 0).digits.length + 1 < 2) := by decide +kernel

theorem witness_PlanLookupFindsTheLongestPrefix :
    lookup planAtPowerOn [.num 1, .num 1, .num 2] = some { cls := .priority, length := 3 } := by decide +kernel

theorem witness_CompletionFollowsItsSteps :
    (((timed .dial .interdigit).line 0).callState = .dial ∧
      ((timed .dial .interdigit).line 0).timer = some { kind := .interdigit, expires := 0 }) ∧
    (inService.line 0).callState ≠ .dial ∧ ((timed .dial .firstDigit).line 0).timer.map StateTimer.kind = some .firstDigit ∧
    (let s := (timed .dial .interdigit).modLine 0 fun r => { r with restricted := true }
     (s.line 0).restricted = true ∧ (s.line 0).planMatch = none) ∧
    (let s := (timed .dial .interdigit).modLine 0 fun r => { r with planMatch := some { cls := .priority, length := 3 } }
     (s.line 0).restricted = false ∧ s.highway.state ≠ .down ∧ s.sli.controller = .present ∧
      (s.line 0).planMatch = some { cls := .priority, length := 3 }) ∧
    (State.reset.highway.state = .down ∧ State.reset.sli.controller = .lost) := by
  decide +kernel

/-- A part with no FREE bearer and a seizure queue of one line of each class. -/
def queueing : State :=
  { inService with pool := { inService.pool with freeList := [], queue := [(3, .priority), (4, .normal)] } }

theorem witness_SupplyTakesTheFirstSource :
    (inService.pool.freeList = 0 :: [1, 2, 3, 4, 5]) ∧
    ((underTest true).pool.freeList = [] ∧ (underTest true).test.map TestContext.yields = some true) ∧
    ((underTest false).pool.freeList = [] ∧ (underTest false).test.map TestContext.yields = some false) ∧
    (queueing.pool.freeList = [] ∧ queueing.test = none ∧ queueing.pool.queue = queueing.pool.queue ++ [] ∧
      queueing.pool.queue = [(3, .priority)] ++ [(4, .normal)] ∧ (∀ e ∈ [((3 : LineNo), QueueClass.priority)], e.2 = .priority)) ∧
    (let s := { withAlert .placed with pool := { (withAlert .placed).pool with freeList := [] } }
     s.pool.freeList = [] ∧ s.test = none ∧ s.ring.accepted = [] ++ 0 :: [] ∧ s.alertAt 0 = some (alertSeven .placed)) ∧
    queueing.ring.accepted = [] := by decide +kernel

theorem witness_StateTimersExpireInTheirStates :
    ∀ e ∈ [(TimerKind.firstDigit, CallState.dial), (.wait, .dial), (.wait, .waitBearer), (.clearing, .clearing),
        (.howler, .lockout)],
      ((timed e.2 e.1).line 0).callState = e.2 ∧ ((timed e.2 e.1).line 0).timer = some { kind := e.1, expires := 0 } ∧
      (inService.line 0).timer = none := by decide +kernel

/-- Alert 7 waits in a part whose total, with it, is 26 PU: 29 PU is the least budget with room to ring it. -/
theorem witness_PlacementTakesTheSoonestQualifyingPhase :
    inService.ringQueue = [] ∧
    ((withAlert .placed).ring.accepted = [] ++ 0 :: [] ∧ (withAlert .placed).alertAt 0 = some (alertSeven .placed)) ∧
    ((withAlert .queued).ringQueue = 0 :: [] ∧ (withAlert .queued).alertAt 0 = some (alertSeven .queued)) ∧
    (let s := { withAlert .queued with power := { inService.power with budget := 28 } }
     ∀ p, s.power.budget < s.baseCost + s.feedCost + s.answerReserve + 3 * (s.phaseLoad p + 1)) ∧
    (let s := { withAlert .queued with power := { inService.power with budget := 29 } }
     (∀ p, s.phaseLoad p + 1 ≤ s.ring.capacity) ∧ s.baseCost + s.feedCost + s.answerReserve + 3 * 1 ≤ s.power.budget) := by
  decide +kernel

/-- Alert 7 with a burst of entry 5 in a segment. -/
def bursting (segment : Nat) : State :=
  { withAlert .placed with ring := { (withAlert .placed).ring with
    alerts := inService.ring.alerts.set 0 (some { alertSeven .placed with
      burst := some { segments := [400, 200, 400], segment := segment, ends := 400 } }) } }

theorem witness_WindowStartsBurstsAndSegmentsFollow :
    conserving.mode.mode = .conserve ∧ (withAlert .placed).mode.mode = .active ∧ inService.alertAt 0 = none ∧
    ((withAlert .placed).alertAt 0 = some (alertSeven .placed) ∧ (alertSeven .placed).burst = none) ∧
    (((bursting 1).alertAt 0).bind AlertRecord.burst).bind (fun b => b.segments[b.segment + 1]?) = some 400 ∧
    (((bursting 2).alertAt 0).bind AlertRecord.burst).map (fun b => decide (b.segments.length ≤ b.segment + 1)) = some true :=
  by decide +kernel

/-- Lines 0 and 1 hear BUSY. -/
def hearing : State :=
  let hear := fun r : LineRecord => { r with tone := some .busy }
  { (inService.modLine 0 hear).modLine 1 hear with tones := { inService.tones with busy := some { segment := 1, began := 500 } } }

theorem witness_ToneSourcesRunWhileHeard :
    (inService.tones.source .busy = none ∧ inService.tones.cadences[toneEntry .dial].length ≤ 1) ∧
    (hearing.tones.source .busy = some { segment := 1, began := 500 } ∧ 2 ≤ hearing.tones.cadences[toneEntry .busy].length) ∧
    ((hearing.line 0).tone = some .busy ∧ (hearing.line 0).tone ≠ none ∧
      ∃ m, m ≠ (0 : LineNo) ∧ (hearing.line m).tone = some .busy) ∧
    (let s := hearing.modLine 1 fun r => { r with tone := none }
     (s.line 0).tone = some .busy ∧ ∀ m, m ≠ (0 : LineNo) → (s.line m).tone ≠ some .busy) ∧
    ((hearing.line 2).tone = none ∧ hearing.tones.source .congestion = none) := by decide +kernel

/-- A checker whose register is full. -/
def filled (register : BitVec 15) (run : Nat) : Checker :=
  { register := register, filled := 15, run := run, window := [] }

/-- A checker that follows a sequence and has seen a number of mismatches in its window. -/
def mismatched (k : Nat) : Checker :=
  { filled 1 32 with window := List.replicate k true }

/-- A test whose checker is LOCKED or HUNTING. -/
def checking (locked : Bool) (c : Checker) : TestContext :=
  { bearer := 0, duration := 5, threshold := 3, inject := false, yields := false, began := 0, locked := locked
    errorCount := 0, generator := 0x7FFF, invertNext := false, sentBit := none, injections := 0, checker := c }

theorem witness_TestCountsReportsAndEndsWithItsOutcome :
    inService.test = none ∧
    (underTest true).test.map (fun t => (t.locked, t.errorCount, t.threshold, t.inject)) = some (true, 3, 3, true) ∧
    (after .bitError (underTest true)).test.map (fun t => (t.locked, t.errorCount, t.threshold)) = some (true, 4, 3) ∧
    (after .lockLost (underTest true)).test.map TestContext.locked = some false ∧
    ({ underTest true with test := (underTest true).test.map fun t => { t with inject := false } } : State).test.map
      TestContext.inject = some false ∧
    ((checking false Checker.hunting).checker.filled < 15 ∧ (checking false (filled 0 0)).checker.register = 0) ∧
    ((checking false (filled 1 30)).checker.register ≠ 0 ∧ (checking false (filled 1 30)).checker.run + 1 < 32 ∧
      32 ≤ (checking false (filled 1 31)).checker.run + 1) ∧
    ((true :: (checking true (mismatched 6)).checker.window).take 64).count true < 8 ∧
    8 ≤ ((true :: (checking true (mismatched 7)).checker.window).take 64).count true := by decide +kernel

/-- A part whose highway is in HIT, with its timers running. -/
def inHit (restore : Option Nat) : State :=
  { withAlert .queued with highway := { state := .hit, grace := some 2000, restore := restore, lossFrom := none } }

theorem witness_HighwayFollowsPulsesAndLosses :
    conserving.mode.mode = .conserve ∧
    (State.reset.mode.mode = .active ∧ State.reset.highway.state ≠ .up ∧ State.reset.highway.restore = none) ∧
    (inService.highway.state = .up ∧ (inHit (some 100)).highway.restore ≠ none ∧ (inHit (some 100)).highway.state = .hit) ∧
    ((after .framePulse State.reset).highway.restore ≠ none ∧ (after .framePulse State.reset).highway.state = .down) := by
  decide +kernel

theorem witness_GraceExpiryTakesTheHighwayDown :
    inService.highway.grace = none ∧ (inHit none).highway.grace ≠ none ∧
    (((inHit none).line 5).callState = .alerted ∧ (inHit none).alertAt 0 = some (alertSeven .queued) ∧
      5 ∈ (alertSeven .queued).members ∧ (5 : LineNo) ∉ (inHit none).pool.queue.map Prod.fst) ∧
    ((lineIn .alerted).line 0).callState = .alerted ∧ ((lineIn .connected).line 0).callState = .connected ∧
    ((3 : LineNo) ∈ queueing.pool.queue.map Prod.fst ∧ (queueing.line 3).callState ≠ .alerted) ∧
    (inService.line 0).callState ≠ .alerted := by decide +kernel

theorem witness_SupervisionTimeoutLosesTheController :
    inService.sli.supervision = none ∧ (after .partQuery inService).sli.supervision ≠ none := by decide +kernel

theorem witness_LimitTimerOrLineWakesThePart :
    (conserving.mode.mode = .conserve ∧ conserving.mode.limit ≠ none) ∧
    (inService.mode.mode = .active ∧ inService.mode.limit = none) ∧
    (waking.mode.mode = .conserve ∧ (waking.line 0).callState ≠ .deenergized ∧ (waking.scan 0).hook = .on ∧
      dated waking 0 32 ∧ ((woken waking (.line 0)).line 0).callState = .idle) ∧
    (let s := signalled conserving [.off 0]
     s.mode.mode = .conserve ∧ ((woken (without s (.off 0)) (.line 0)).line 0).callState = .idle) ∧
    (let s := signalled (conserving.modLine 0 fun r => { r with callState := .deenergized }) [.off 0]
     ((woken (without s (.off 0)) (.line 0)).line 0).callState = .deenergized) :=
  ⟨by decide +kernel, by decide +kernel, ⟨by decide +kernel, by decide +kernel, by decide +kernel, Or.inl rfl,
   by decide +kernel⟩, by decide +kernel, by decide +kernel⟩

theorem witness_EveryStepKeepsTheRanges :
    rangesKept (inHit (some 100)) ∧ ∃ t, step (inHit (some 100)) = .next t := by
  refine ⟨?_, _, rfl⟩
  unfold rangesKept Safety.repliesFit Safety.queueOrFree Safety.rangesHold Safety.highwayTimersAgree
  decide +kernel

/-- Alert 7 is PLACED in a phase that it fills. -/
theorem witness_EveryStepKeepsPhasesWithinCapacity :
    let s := { withAlert .placed with ring := { (withAlert .placed).ring with capacity := 1 }, pending := [.setPower 80 1] }
    phasesFit s ∧ s.phaseLoad 0 = 1 ∧ ∃ t, step s = .next t :=
  ⟨⟨by decide +kernel, one_alert (x := alertSeven .placed) (by decide +kernel) (by decide +kernel) fun _ => by decide +kernel⟩,
   by decide +kernel, _, rfl⟩

theorem witness_EveryStepKeepsToneSourcesWithTheirListeners :
    let s := { hearing with pending := [.toneSegmentEnd .busy] }
    sourcesRunWhileHeard s ∧ ∃ t, step s = .next t := by
  refine ⟨?_, _, rfl⟩
  intro k
  cases k <;> decide +kernel

end Sys2Proof.Tests
end

