-- ==== Sys2Proof/Proofs/GapPoint.lean ====
section
/-! PROOF. The gap point of a pulse train: what holds its decision, what a closing train becomes, and the statement of
the gap point (R8, R9). -/

namespace Sys2Proof.Machine

open Sys2Proof.Slice0

/-! ### The decision at the gap point -/

theorem exec_gapPointReached (n : LineNo) (s : State) : exec (.gapPointReached n) s = .next (s.gapPoint n) := rfl

/-- R9: what holds the gap decision is the ON run of an OFF line, or the break of an ON line, that began before the
point. -/
theorem State.gapHeld_iff {s : State} {n : LineNo} {g : Nat} (hg : (s.scan n).gapPoint = some g) :
    s.gapHeld n = true ↔ ∃ b, b < g ∧
      ((s.scan n).hook = .off ∧ (s.scan n).runStart = some b ∨
        (s.scan n).hook = .on ∧ (s.scan n).lastTransition = some b) := by
  unfold State.gapHeld
  dsimp only
  cases (s.scan n).hook with
  | off => cases (s.scan n).runStart <;> simp [after, hg]
  | on => cases (s.scan n).lastTransition <;> simp [after, hg]

theorem State.gapPoint_of_none {s : State} {n : LineNo} (h : (s.scan n).gapPoint = none) : s.gapPoint n = s :=
  if_pos (.inl h)

theorem State.gapPoint_of_held {s : State} {n : LineNo} (h : s.gapHeld n = true) : s.gapPoint n = s :=
  if_pos (.inr h)

theorem State.gapPoint_of_not_held {s : State} {n : LineNo} {g : Nat} (hg : (s.scan n).gapPoint = some g)
    (h : ¬ s.gapHeld n = true) : s.gapPoint n = s.closeTrain n :=
  if_neg (by simp [hg, h])

/-! ### What a train closes into -/

theorem trainDigit_of_fin (d : Fin 10) : trainDigit d.1 = some (.num d) :=
  dif_pos d.2

theorem trainDigit_ten : trainDigit 10 = some (.num 0) := rfl

theorem trainDigit_of_eleven_le {k : Nat} (h : 11 ≤ k) : trainDigit k = none := by
  have hlt : ¬ k < 10 := by omega
  have hne : k ≠ 10 := by omega
  simp [trainDigit, hlt, hne]

/-- R8, R13: outside DIAL, or with no pulse counted, closing a train only discards it. -/
theorem State.closeTrain_of_no_train {s : State} {n : LineNo}
    (h : (s.line n).callState ≠ .dial ∨ (s.scan n).pulseCount = 0) : s.closeTrain n = s.dropTrain n :=
  if_neg fun ⟨hdial, hpos⟩ => h.elim (· hdial) (Nat.ne_of_gt hpos)

/-- R8: in DIAL a train whose count stands for a digit appends it. -/
theorem State.closeTrain_of_digit {s : State} {n : LineNo} {d : Digit} (hdial : (s.line n).callState = .dial)
    (hpos : 0 < (s.scan n).pulseCount) (hd : trainDigit (s.scan n).pulseCount = some d) :
    s.closeTrain n = (s.dropTrain n).appendDigit n d := by
  unfold State.closeTrain
  dsimp only
  rw [if_pos ⟨hdial, hpos⟩, hd]

/-- R8: in DIAL a train of eleven pulses or more is MISDIAL. -/
theorem State.closeTrain_of_misdial {s : State} {n : LineNo} (hdial : (s.line n).callState = .dial)
    (hk : 11 ≤ (s.scan n).pulseCount) : s.closeTrain n = (s.dropTrain n).misdial n := by
  have hpos : 0 < (s.scan n).pulseCount := by omega
  unfold State.closeTrain
  dsimp only
  rw [if_pos ⟨hdial, hpos⟩, trainDigit_of_eleven_le hk]

/-! ### MISDIAL as the statements write it -/

/-- R32 to R34: the entry to CLEARING is the state the statements write out. -/
theorem State.toClearing_eq_clearing (s : State) (n : LineNo) (t : Option ToneKind) (k : LineEvent) :
    s.toClearing n t k = clearing s n t k := by
  apply State.ext_of
  case line =>
    intro m
    rw [State.line_toClearing, clearing, State.line_modLine]
    rfl
  case tones => exact State.tones_toClearing s n t k
  all_goals simp [clearing]

theorem State.misdial_eq_clearing (s : State) (n : LineNo) :
    s.misdial n = clearing (s.leaveDial n) n (some .congestion) .dialError :=
  State.toClearing_eq_clearing _ n _ _

/-! ### The obligation -/

/-- Settles O42: the three cases of the gap decision, then the three counts a train in DIAL closes by. -/
theorem gapPointClosesTheTrain : Obligations.GapPointClosesTheTrain := by
  unfold Obligations.GapPointClosesTheTrain
  intro s n
  refine ⟨fun hnone => ?_, fun g b hg hlt hrun => ?_, fun g hg hfree => ?_, State.closeTrain_of_no_train,
    fun hdial => ⟨fun d hd hk => ?_, fun hk => ?_, fun hk => ?_⟩⟩
  · rw [exec_gapPointReached, State.gapPoint_of_none hnone]
  · rw [exec_gapPointReached, State.gapPoint_of_held ((State.gapHeld_iff hg).2 ⟨b, hlt, hrun⟩)]
  · have hnot : ¬ s.gapHeld n = true := by
      rw [State.gapHeld_iff hg]
      rintro ⟨b, hlt, hrun⟩
      grind
    rw [exec_gapPointReached, State.gapPoint_of_not_held hg hnot]
  · have hpos : 0 < d.1 := Nat.pos_of_ne_zero fun h => hd (Fin.ext h)
    exact State.closeTrain_of_digit hdial (hk ▸ hpos) (by rw [hk, trainDigit_of_fin])
  · exact State.closeTrain_of_digit hdial (by omega) (by rw [hk, trainDigit_ten])
  · exact (State.closeTrain_of_misdial hdial hk).trans (State.misdial_eq_clearing _ n)

end Sys2Proof.Machine
end

/-! PROOF. CLEAR (R33): its three checks in order, what the line held ended by its state, and the entry to CLEARING. -/

namespace Sys2Proof.Machine

open Sys2Proof.Slice0

/-! ### A request that is served -/

/-- R166, steps 1 to 3: a request that finds a place in the reply queue is acted on once its frame has arrived, and its
reply joins the queue. -/
theorem exec_request_of_serve {c : Instr} {r : Request} {s t : State} {type : Octet} {body : List Octet}
    (hr : c.request = some r) (hroom : s.sli.replies.length < 4)
    (hserve : Request.serve r (arrived s) = (t, { type := type, body := body })) :
    exec c s = .next (replied t type body) := by
  rw [exec_request hr, State.completeFrame_of_room hroom, ← arrived, hserve]
  rfl

/-! ### The fields of CLEAR -/

@[simp] theorem lineNo_val (n : LineNo) : lineNo n.1 = some n :=
  dif_pos n.2

theorem lineNo_of_le {v : Nat} (h : 24 ≤ v) : lineNo v = none :=
  dif_neg (Nat.not_lt.2 h)

/-- R33: a tone field outside 0, 2 and 3 names no tone of CLEAR. -/
theorem clearToneOf_of_ne {tone : Nat} (h0 : tone ≠ 0) (h2 : tone ≠ 2) (h3 : tone ≠ 3) : clearToneOf tone = none := by
  match tone with
  | 0 => exact absurd rfl h0
  | 2 => exact absurd rfl h2
  | 3 => exact absurd rfl h3
  | 1 | _ + 4 => rfl

/-- R33: the three values of CLEAR's tone field, each with the tone it names. -/
theorem clearToneOf_of_named {tone : Nat} {k : Option ToneKind}
    (h : tone = 0 ∧ k = none ∨ tone = 2 ∧ k = some .busy ∨ tone = 3 ∧ k = some .congestion) :
    clearToneOf tone = some k := by
  obtain ⟨rfl, rfl⟩ | ⟨rfl, rfl⟩ | ⟨rfl, rfl⟩ := h <;> rfl

/-! ### What the line held -/

theorem State.endHeld_of_dial {s : State} {n : LineNo} (h : (s.line n).callState = .dial) :
    s.endHeld n = some (s.leaveDial n) := by
  rw [State.endHeld, h]

theorem State.endHeld_of_waitBearer {s : State} {n : LineNo} (h : (s.line n).callState = .waitBearer) :
    s.endHeld n = some (s.leaveQueue n) := by
  rw [State.endHeld, h]

theorem State.endHeld_of_connected {s : State} {n : LineNo} (h : (s.line n).callState = .connected) :
    s.endHeld n = some (s.handBack n) := by
  rw [State.endHeld, h]

/-- R33: a line in any other state holds nothing that CLEAR could end. -/
theorem State.endHeld_of_other {s : State} {n : LineNo} (hdial : (s.line n).callState ≠ .dial)
    (hwait : (s.line n).callState ≠ .waitBearer) (hconn : (s.line n).callState ≠ .connected) : s.endHeld n = none := by
  cases hc : (s.line n).callState <;> simp_all [State.endHeld]

theorem State.handBack_of_bearer {s : State} {n : LineNo} {b : BearerNo} (h : (s.line n).bearer = some b) :
    s.handBack n = (s.modLine n fun r => { r with bearer := none }).enterFree b := by
  rw [State.handBack, h]

theorem State.handBack_of_none {s : State} {n : LineNo} (h : (s.line n).bearer = none) : s.handBack n = s := by
  rw [State.handBack, h]

/-! ### The outcomes of CLEAR -/

section
variable {s : State} {tone : Nat} (hroom : s.sli.replies.length < 4)
include hroom

/-- R33, the first check: a line number above 23 is BAD_TARGET, whatever the tone. -/
theorem exec_clear_of_bad_target {v : Nat} (hv : 24 ≤ v) :
    exec (.clear v tone) s = .next (replied (arrived s) 0x8B [2, octet v]) := by
  refine exec_request_of_serve (r := .clear v tone) rfl hroom ?_
  simp only [Request.serve, State.serveClear, lineNo_of_le hv]
  rfl

/-- R33, the second check: a tone that CLEAR does not have is BAD_RECORD, whatever the line's state. -/
theorem exec_clear_of_bad_tone (n : LineNo) (ht : clearToneOf tone = none) :
    exec (.clear n.1 tone) s = .next (replied (arrived s) 0x8B [1, octet n.1]) := by
  refine exec_request_of_serve (r := .clear n.1 tone) rfl hroom ?_
  simp only [Request.serve, State.serveClear, lineNo_val, ht]
  rfl

/-- R33, the third check: a line that holds nothing to end is WRONG_STATE. -/
theorem exec_clear_of_wrong_state {n : LineNo} {k : Option ToneKind} (ht : clearToneOf tone = some k)
    (hheld : (arrived s).endHeld n = none) :
    exec (.clear n.1 tone) s = .next (replied (arrived s) 0x8B [4, octet n.1]) := by
  refine exec_request_of_serve (r := .clear n.1 tone) rfl hroom ?_
  simp only [Request.serve, State.serveClear, lineNo_val, ht, hheld]
  rfl

/-- R33: an accepted CLEAR ends what the line held, takes it to CLEARING with the tone, and answers with the state it
found the line in. -/
theorem exec_clear_of_held {n : LineNo} {k : Option ToneKind} {ended : State} {c : CallState}
    (ht : clearToneOf tone = some k) (hc : ((arrived s).line n).callState = c)
    (hheld : (arrived s).endHeld n = some ended) :
    exec (.clear n.1 tone) s = .next (replied (clearing ended n k .cleared) 0x8B [0, octet n.1, octet c.code]) := by
  refine exec_request_of_serve (r := .clear n.1 tone) rfl hroom ?_
  simp only [Request.serve, State.serveClear, lineNo_val, ht, hheld, hc, State.toClearing_eq_clearing]
  rfl

end

/-! ### The obligation -/

/-- Settles O13: the three checks in order, then the accepted CLEAR by what the line's state holds. -/
theorem clearEndsWhatTheLineHolds : Obligations.ClearEndsWhatTheLineHolds := by
  unfold Obligations.ClearEndsWhatTheLineHolds
  intro s tone hroom
  refine ⟨fun v hv => exec_clear_of_bad_target hroom hv, fun n =>
    ⟨fun h0 h2 h3 => exec_clear_of_bad_tone hroom n (clearToneOf_of_ne h0 h2 h3), fun k hk => ?_⟩⟩
  have ht : clearToneOf tone = some k := clearToneOf_of_named hk
  refine ⟨fun hdial hwait hconn => ?_, fun hdial => ?_, fun hwait => ?_, fun hconn => ⟨fun b hb => ?_, fun hnone => ?_⟩⟩
  · exact exec_clear_of_wrong_state hroom ht (State.endHeld_of_other hdial hwait hconn)
  · exact exec_clear_of_held hroom ht hdial (State.endHeld_of_dial hdial)
  · exact exec_clear_of_held hroom ht hwait (State.endHeld_of_waitBearer hwait)
  · rw [← State.handBack_of_bearer hb]
    exact exec_clear_of_held hroom ht hconn (State.endHeld_of_connected hconn)
  · have hheld := State.endHeld_of_connected hconn
    rw [State.handBack_of_none hnone] at hheld
    exact exec_clear_of_held hroom ht hconn hheld

end Sys2Proof.Machine

/-! PROOF. LOAD_PLAN (R58): the rows that make a plan entry, the plan a request carries, and its two outcomes. -/

namespace Sys2Proof.Machine

open Sys2Proof.Slice0

/-! ### The leading characters -/

/-- The digit that a leading character stands for, where it stands for one. -/
def characterDigit (v : Nat) : Digit :=
  if h : v < 10 then .num ⟨v, h⟩ else .star

theorem digitOf_of_le {v : Nat} (h : v ≤ 10) : digitOf v = some (characterDigit v) := by
  unfold digitOf characterDigit
  by_cases hv : v < 10
  · simp [hv]
  · simp [show v = 10 by omega]

theorem digitOf_of_lt {v : Nat} (h : 10 < v) : digitOf v = none := by
  have hlt : ¬ v < 10 := by omega
  have hne : v ≠ 10 := by omega
  simp [digitOf, hlt, hne]

theorem digitCode_characterDigit {v : Nat} (h : v ≤ 10) : digitCode (characterDigit v) = v := by
  unfold characterDigit
  by_cases hv : v < 10
  · simp [hv, digitCode]
  · simp [show v = 10 by omega, digitCode]

theorem digitsOf_of_le {vs : List Nat} (h : ∀ v ∈ vs, v ≤ 10) : digitsOf vs = some (vs.map characterDigit) := by
  induction vs with
  | nil => rfl
  | cons v vs ih =>
    obtain ⟨hv, hvs⟩ := List.forall_mem_cons.1 h
    simp [digitsOf, digitOf_of_le hv, ih hvs]

/-- R58: one character outside 0..9 and `*` spoils all the leading characters of a row. -/
theorem digitsOf_of_lt {v : Nat} {vs : List Nat} (hmem : v ∈ vs) (hv : 10 < v) : digitsOf vs = none := by
  induction hmem with
  | head => simp [digitsOf, digitOf_of_lt hv]
  | tail _ _ ih => simp [digitsOf, ih]

/-! ### The class -/

theorem planClassOf_of_le {c : Nat} (h : c ≤ 2) :
    planClassOf c = some (if c = 0 then .normal else if c = 1 then .priority else .barred) := by
  match c with
  | 0 | 1 | 2 => rfl

theorem planClassOf_of_lt {c : Nat} (h : 2 < c) : planClassOf c = none := by
  match c with
  | _ + 3 => rfl

/-! ### One row -/

theorem rowEntry_leading (e : PlanRow) : (rowEntry e).leading = e.leading.map characterDigit := rfl

/-- The entry of an allowed row keeps the row's leading characters: they are the codes of its digits. -/
theorem rowEntry_leading_codes {e : PlanRow} (h : rowAllowed e) : (rowEntry e).leading.map digitCode = e.leading := by
  obtain ⟨_, _, hchars, _⟩ := h
  rw [rowEntry_leading, List.map_map]
  exact (List.map_congr_left fun v hv => digitCode_characterDigit (hchars v hv)).trans (List.map_id _)

theorem planEntryOf_of_allowed {e : PlanRow} (h : rowAllowed e) : planEntryOf e = some (rowEntry e) := by
  obtain ⟨hpos, hle, hchars, hcls⟩ := h
  have hlen : ¬ (e.leading.length = 0 ∨ 4 < e.leading.length) := by omega
  rw [planEntryOf, if_neg hlen, digitsOf_of_le hchars, planClassOf_of_le hcls]
  simp only [List.length_map]
  rfl

/-- R58: a row that one of the rule's cases refuses gives no entry. -/
theorem planEntryOf_of_not_allowed {e : PlanRow} (h : ¬ rowAllowed e) : planEntryOf e = none := by
  unfold planEntryOf
  split
  case isTrue => rfl
  case isFalse hlen =>
    obtain ⟨v, hmem, hv⟩ | hcls : (∃ v ∈ e.leading, 10 < v) ∨ 2 < e.cls := by
      by_contra hgood
      push Not at hgood
      exact h ⟨by omega, by omega, hgood⟩
    · rw [digitsOf_of_lt hmem hv]
    · rw [planClassOf_of_lt hcls]
      cases digitsOf e.leading <;> rfl

/-! ### The rows of a request -/

theorem planEntriesOf_of_allowed {rows : List PlanRow} (h : ∀ e ∈ rows, rowAllowed e) :
    planEntriesOf rows = some (rows.map rowEntry) := by
  induction rows with
  | nil => rfl
  | cons e rows ih =>
    obtain ⟨he, hrows⟩ := List.forall_mem_cons.1 h
    simp [planEntriesOf, planEntryOf_of_allowed he, ih hrows]

/-- R58: one refused row spoils the whole request. -/
theorem planEntriesOf_of_not_allowed {e : PlanRow} {rows : List PlanRow} (hmem : e ∈ rows) (he : ¬ rowAllowed e) :
    planEntriesOf rows = none := by
  induction hmem with
  | head => simp [planEntriesOf, planEntryOf_of_not_allowed he]
  | tail _ _ ih => simp [planEntriesOf, ih]

/-- R57: the check on a plan is that no two entries lead with the same digits. -/
theorem distinctLeadings_iff (plan : List PlanEntry) :
    distinctLeadings plan = true ↔ (plan.map PlanEntry.leading).Nodup := by
  induction plan with
  | nil => simp [distinctLeadings]
  | cons e plan ih => simp [distinctLeadings, ih]

/-- Among allowed rows two entries lead with the same digits exactly when their rows lead with the same characters:
characters and digits determine each other. -/
theorem nodup_leading_rowEntry_iff {rows : List PlanRow} (h : ∀ e ∈ rows, rowAllowed e) :
    ((rows.map rowEntry).map PlanEntry.leading).Nodup ↔ (rows.map PlanRow.leading).Nodup := by
  have hdigits : (rows.map rowEntry).map PlanEntry.leading =
      (rows.map PlanRow.leading).map (List.map characterDigit) := by
    simp only [List.map_map]
    rfl
  have hcodes : ((rows.map rowEntry).map PlanEntry.leading).map (List.map digitCode) = rows.map PlanRow.leading := by
    simp only [List.map_map]
    exact List.map_congr_left fun e he => rowEntry_leading_codes (h e he)
  constructor
  · intro hnodup
    rw [hdigits] at hnodup
    exact hnodup.of_map
  · intro hnodup
    rw [← hcodes] at hnodup
    exact hnodup.of_map

/-! ### The plan of a request -/

theorem planOf_of_allowed {rows : List PlanRow} (hcount : rows.length ≤ 16) (hrows : ∀ e ∈ rows, rowAllowed e)
    (hnodup : (rows.map PlanRow.leading).Nodup) : planOf rows.length rows = some (rows.map rowEntry) := by
  have hdistinct : distinctLeadings (rows.map rowEntry) = true :=
    (distinctLeadings_iff _).2 ((nodup_leading_rowEntry_iff hrows).2 hnodup)
  have hlen : ¬ (16 < rows.length ∨ rows.length ≠ rows.length) := by omega
  rw [planOf, if_neg hlen, planEntriesOf_of_allowed hrows]
  exact if_pos hdistinct

theorem planOf_of_count {rows : List PlanRow} (h : 16 < rows.length) : planOf rows.length rows = none :=
  if_pos (.inl h)

theorem planOf_of_not_allowed {e : PlanRow} {rows : List PlanRow} (hmem : e ∈ rows) (he : ¬ rowAllowed e) :
    planOf rows.length rows = none := by
  rw [planOf, planEntriesOf_of_not_allowed hmem he]
  exact ite_self none

theorem planOf_of_repeated {rows : List PlanRow} (hrows : ∀ e ∈ rows, rowAllowed e)
    (hrepeat : ¬ (rows.map PlanRow.leading).Nodup) : planOf rows.length rows = none := by
  have hdistinct : ¬ distinctLeadings (rows.map rowEntry) = true := by
    rwa [distinctLeadings_iff, nodup_leading_rowEntry_iff hrows]
  rw [planOf, planEntriesOf_of_allowed hrows]
  simp only [if_neg hdistinct, ite_self]

/-- R58: each of the rule's cases leaves the request without a plan. -/
theorem planOf_of_refused {rows : List PlanRow}
    (h : 16 < rows.length ∨ (∃ e ∈ rows, ¬ rowAllowed e) ∨ ¬ (rows.map PlanRow.leading).Nodup) :
    planOf rows.length rows = none := by
  obtain hcount | ⟨e, hmem, he⟩ | hrepeat := h
  · exact planOf_of_count hcount
  · exact planOf_of_not_allowed hmem he
  · by_cases hrows : ∀ e ∈ rows, rowAllowed e
    · exact planOf_of_repeated hrows hrepeat
    · push Not at hrows
      obtain ⟨e, hmem, he⟩ := hrows
      exact planOf_of_not_allowed hmem he

/-! ### The outcomes of LOAD_PLAN -/

section
variable {s : State} {count : Nat} {rows : List PlanRow} (hroom : s.sli.replies.length < 4)
include hroom

/-- R58: a request without a plan is answered BAD_RECORD and leaves the plan in force. -/
theorem exec_loadPlan_of_none (h : planOf count rows = none) :
    exec (.loadPlan count rows) s = .next (replied (arrived s) 0x9A [1]) := by
  refine exec_request_of_serve (r := .loadPlan count rows) rfl hroom ?_
  simp only [Request.serve, State.serveLoadPlan, h]
  rfl

/-- R58: a request with a plan replaces the whole plan, and its reply echoes the applied lengths in request order. -/
theorem exec_loadPlan_of_plan {plan : List PlanEntry} (h : planOf count rows = some plan) :
    exec (.loadPlan count rows) s = .next (replied
      { arrived s with collector := { (arrived s).collector with plan := plan } } 0x9A
      (0 :: octet plan.length :: plan.map fun e => octet e.length)) := by
  refine exec_request_of_serve (r := .loadPlan count rows) rfl hroom ?_
  have hechoed : counted (plan.map fun e => [octet e.length]) =
      octet plan.length :: plan.map fun e => octet e.length := by
    rw [counted, List.length_map, ← List.flatMap_def, List.map_eq_flatMap]
  simp only [Request.serve, State.serveLoadPlan, h, hechoed]
  rfl

end

/-! ### The obligation -/

/-- Settles O25: an allowed request carries the plan of its rows' entries, and every refused one carries none. -/
theorem loadPlanReplacesThePlanOrIsRefused : Obligations.LoadPlanReplacesThePlanOrIsRefused := by
  unfold Obligations.LoadPlanReplacesThePlanOrIsRefused
  intro s rows hroom
  refine ⟨fun hcount hrows hnodup => ?_, fun hrefused => exec_loadPlan_of_none hroom (planOf_of_refused hrefused)⟩
  have hexec := exec_loadPlan_of_plan hroom (planOf_of_allowed hcount hrows hnodup)
  rwa [List.length_map, List.map_map] at hexec

end Sys2Proof.Machine

/-! PROOF. BLOCK_BEARER (R82, Table 4-4) and UNBLOCK_BEARER (R84, Table 4-5): what each makes of a bearer by the bearer's
state, and the replies. -/

namespace Sys2Proof.Machine

open Sys2Proof.Slice0

/-! ### The bearer field -/

@[simp] theorem bearerNo_val (b : BearerNo) : bearerNo b.1 = some b :=
  dif_pos b.2

theorem bearerNo_of_le {v : Nat} (h : 6 ≤ v) : bearerNo v = none :=
  dif_neg (Nat.not_lt.2 h)

/-! ### The rows that only write the flag -/

/-- Tables 4-4 and 4-5: the rows in which a block cannot take hold of the bearer yet (R83), so that both requests act on
the block pending flag alone. -/
def State.flagRow (s : State) (b : BearerNo) : Prop :=
  (s.bearer b).state = .busy ∨ (s.bearer b).state = .reserved ∨
    ((s.bearer b).state = .down ∧ (s.bearer b).downReason ≠ some .testFailed)

/-- R82: in those rows BLOCK_BEARER sets the flag. -/
theorem State.blockBearer_of_flagRow {s : State} {b : BearerNo} (h : s.flagRow b) : s.blockBearer b = s.blockLater b := by
  unfold State.blockBearer
  obtain hbusy | hreserved | ⟨hdown, hreason⟩ := h
  · rw [hbusy]
  · rw [hreserved]
  · rw [hdown]
    split <;> simp_all

/-- R84: in those rows UNBLOCK_BEARER takes the flag back, or is refused where there is none. -/
theorem State.unblockBearer_of_flagRow {s : State} {b : BearerNo} (h : s.flagRow b) :
    s.unblockBearer b =
      if (s.bearer b).blockPending then some (s.modBearer b fun r => { r with blockPending := false }) else none := by
  unfold State.unblockBearer
  obtain hbusy | hreserved | ⟨hdown, hreason⟩ := h
  · rw [hbusy]
  · rw [hreserved]
  · rw [hdown]
    split <;> simp_all

/-! ### BLOCK_BEARER in the other rows -/

/-- A block that takes hold changes one bearer record. -/
theorem State.blockNow_eq (s : State) (b : BearerNo) :
    s.blockNow b = s.modBearer b fun r =>
      { r with state := .blocked, downReason := none, holder := none,
               events := addKind BearerEvent.all .blocked r.events } := by
  unfold State.blockNow State.addBearerEvent
  exact State.modBearer_modBearer s b _ _

/-- R142: the abort of a running test is the state the statements write out. -/
theorem State.abortTest_of_some {s : State} {t : TestContext} (h : s.test = some t) (c : TestCause) :
    s.abortTest c = testAborted s t c := by
  unfold State.abortTest
  rw [h]
  exact State.modBearer_modBearer _ _ _ _

theorem State.blockBearer_of_free {s : State} {b : BearerNo} (h : (s.bearer b).state = .free) :
    s.blockBearer b = (s.leaveFreeList b).blockNow b := by
  unfold State.blockBearer
  rw [h]

theorem State.blockBearer_of_testing {s : State} {b : BearerNo} {t : TestContext} (h : (s.bearer b).state = .testing)
    (ht : s.test = some t) : s.blockBearer b = (testAborted s t .block).blockNow b := by
  unfold State.blockBearer
  rw [h, ← State.abortTest_of_some ht]

theorem State.blockBearer_of_blocked {s : State} {b : BearerNo} (h : (s.bearer b).state = .blocked) :
    s.blockBearer b = s := by
  unfold State.blockBearer
  rw [h]

theorem State.blockBearer_of_testFailed {s : State} {b : BearerNo} (h : (s.bearer b).state = .down)
    (hr : (s.bearer b).downReason = some .testFailed) : s.blockBearer b = s.blockNow b := by
  unfold State.blockBearer
  rw [h, hr]

/-! ### UNBLOCK_BEARER in the other rows -/

/-- R84: a BLOCKED bearer of a highway that is down goes DOWN with the highway's reason. -/
theorem State.unblockBearer_of_blocked_down {s : State} {b : BearerNo} (h : (s.bearer b).state = .blocked)
    (hh : s.highway.state = .down) :
    s.unblockBearer b = some (s.modBearer b fun r =>
      { r with state := .down, downReason := some .highway, events := addKind BearerEvent.all .unblocked r.events }) := by
  unfold State.unblockBearer
  rw [h]
  dsimp only
  rw [if_pos hh]
  exact congrArg some (State.modBearer_modBearer s b _ _)

/-- R84: any other BLOCKED bearer enters FREE by the entry rule. -/
theorem State.unblockBearer_of_blocked_up {s : State} {b : BearerNo} (h : (s.bearer b).state = .blocked)
    (hh : s.highway.state ≠ .down) : s.unblockBearer b = some ((s.addBearerEvent b .unblocked).enterFree b) := by
  unfold State.unblockBearer
  rw [h]
  exact if_neg hh

theorem State.unblockBearer_of_testFailed {s : State} {b : BearerNo} (h : (s.bearer b).state = .down)
    (hr : (s.bearer b).downReason = some .testFailed) :
    s.unblockBearer b = some ((s.addBearerEvent b .unblocked).enterFree b) := by
  unfold State.unblockBearer
  rw [h, hr]

/-- R84: a FREE bearer and one under test have no block to take back. -/
theorem State.unblockBearer_of_free_or_testing {s : State} {b : BearerNo}
    (h : (s.bearer b).state = .free ∨ (s.bearer b).state = .testing) : s.unblockBearer b = none := by
  unfold State.unblockBearer
  obtain hfree | htesting := h
  · rw [hfree]
  · rw [htesting]

/-! ### The outcomes of the two requests -/

/-- The octets that a reply shows of a bearer, from the record that a change leaves it. -/
theorem State.blockOctets_modBearer (s : State) (b : BearerNo) (f : BearerRecord → BearerRecord) :
    (s.modBearer b f).blockOctets b = [octet (f (s.bearer b)).state.code, yesNo (f (s.bearer b)).blockPending] := by
  simp [State.blockOctets]

section
variable {s : State} (hroom : s.sli.replies.length < 4)
include hroom

theorem exec_blockBearer_of_bad_target {v : Nat} (hv : 6 ≤ v) :
    exec (.blockBearer v) s = .next (replied (arrived s) 0x94 [2, octet v]) := by
  refine exec_request_of_serve (r := .blockBearer v) rfl hroom ?_
  simp only [Request.serve, State.serveBlockBearer, bearerNo_of_le hv]
  rfl

/-- R82: a bearer's BLOCK_BEARER is answered OK, with the state and the flag that it leaves. -/
theorem exec_blockBearer_of_bearer {b : BearerNo} {w : State} {body : List Octet} (hw : (arrived s).blockBearer b = w)
    (hbody : w.blockOctets b = body) :
    exec (.blockBearer b.1) s = .next (replied w 0x94 (0 :: octet b.1 :: body)) := by
  refine exec_request_of_serve (r := .blockBearer b.1) rfl hroom ?_
  simp only [Request.serve, State.serveBlockBearer, bearerNo_val, hw, hbody]
  rfl

/-- R82: where the block takes hold, the reply shows BLOCKED and the flag as it stood. -/
theorem exec_blockBearer_of_blockNow {b : BearerNo} {w : State} (hw : (arrived s).blockBearer b = w.blockNow b) :
    exec (.blockBearer b.1) s =
      .next (replied (w.blockNow b) 0x94 [0, octet b.1, 4, yesNo (w.bearer b).blockPending]) := by
  refine exec_blockBearer_of_bearer hroom hw ?_
  rw [State.blockNow_eq, State.blockOctets_modBearer]
  rfl

theorem exec_unblockBearer_of_bad_target {v : Nat} (hv : 6 ≤ v) :
    exec (.unblockBearer v) s = .next (replied (arrived s) 0x95 [2, octet v]) := by
  refine exec_request_of_serve (r := .unblockBearer v) rfl hroom ?_
  simp only [Request.serve, State.serveUnblockBearer, bearerNo_of_le hv]
  rfl

/-- R84: an accepted UNBLOCK_BEARER is answered OK, with the state and the flag that it leaves. -/
theorem exec_unblockBearer_of_some {b : BearerNo} {w : State} (hw : (arrived s).unblockBearer b = some w) :
    exec (.unblockBearer b.1) s = .next (replied w 0x95
      [0, octet b.1, octet (w.bearer b).state.code, yesNo (w.bearer b).blockPending]) := by
  refine exec_request_of_serve (r := .unblockBearer b.1) rfl hroom ?_
  simp only [Request.serve, State.serveUnblockBearer, bearerNo_val, hw]
  rfl

/-- R84: a refused UNBLOCK_BEARER is answered WRONG_STATE and changes nothing. -/
theorem exec_unblockBearer_of_none {b : BearerNo} (hw : (arrived s).unblockBearer b = none) :
    exec (.unblockBearer b.1) s = .next (replied (arrived s) 0x95
      [4, octet b.1, octet ((arrived s).bearer b).state.code, yesNo ((arrived s).bearer b).blockPending]) := by
  refine exec_request_of_serve (r := .unblockBearer b.1) rfl hroom ?_
  simp only [Request.serve, State.serveUnblockBearer, bearerNo_val, hw]
  rfl

end

/-! ### The obligations -/

/-- Settles O18: a bad bearer number, then the rows of Table 4-4. -/
theorem blockBearerActsByBearerState : Obligations.BlockBearerActsByBearerState := by
  unfold Obligations.BlockBearerActsByBearerState
  intro s hroom
  refine ⟨fun v hv => exec_blockBearer_of_bad_target hroom hv, fun b => ?_⟩
  refine ⟨fun hfree => ?_, fun hrow => ?_, fun t htesting ht hb => ?_, fun hblocked => ?_, fun hdown hreason => ?_⟩
  · have hexec := exec_blockBearer_of_blockNow hroom (State.blockBearer_of_free hfree)
    rwa [State.blockNow_eq] at hexec
  · exact exec_blockBearer_of_bearer hroom (State.blockBearer_of_flagRow hrow) (State.blockOctets_modBearer _ _ _)
  · subst hb
    have hexec := exec_blockBearer_of_blockNow hroom (State.blockBearer_of_testing htesting ht)
    rw [State.blockNow_eq, testAborted, State.modBearer_modBearer, State.bearer_modBearer, if_pos rfl] at hexec
    exact hexec
  · refine exec_blockBearer_of_bearer hroom (State.blockBearer_of_blocked hblocked) ?_
    rw [State.blockOctets, hblocked]
    rfl
  · have hexec := exec_blockBearer_of_blockNow hroom (State.blockBearer_of_testFailed hdown hreason)
    rwa [State.blockNow_eq] at hexec

/-- Settles O19: a bad bearer number, the accepting rows of Table 4-5, then the refusing ones. -/
theorem unblockBearerActsByBearerState : Obligations.UnblockBearerActsByBearerState := by
  unfold Obligations.UnblockBearerActsByBearerState
  intro s hroom
  refine ⟨fun v hv => exec_unblockBearer_of_bad_target hroom hv, fun b => ?_⟩
  refine ⟨fun hblocked hdown => ?_, fun hblocked hup => ?_, fun hdown hreason => ?_, fun hrow hflag => ?_, ?_⟩
  · exact exec_unblockBearer_of_some hroom (State.unblockBearer_of_blocked_down hblocked hdown)
  · exact exec_unblockBearer_of_some hroom (State.unblockBearer_of_blocked_up hblocked hup)
  · exact exec_unblockBearer_of_some hroom (State.unblockBearer_of_testFailed hdown hreason)
  · exact exec_unblockBearer_of_some hroom ((State.unblockBearer_of_flagRow hrow).trans (if_pos hflag))
  · rintro (⟨hrow, hflag⟩ | hother)
    · exact exec_unblockBearer_of_none hroom
        ((State.unblockBearer_of_flagRow hrow).trans (if_neg (Bool.eq_false_iff.1 hflag)))
    · exact exec_unblockBearer_of_none hroom (State.unblockBearer_of_free_or_testing hother)

end Sys2Proof.Machine

/-! PROOF. Member selection (R91): the candidates of a target, and the leading run of them that an alert takes. -/

namespace Sys2Proof.Machine

/-! ### Candidates -/

/-- R91: a candidate is an IDLE line that the target names, by its number or by its group. -/
theorem State.mem_candidates_iff (s : State) (t : Target) (m : LineNo) :
    m ∈ s.candidates t ↔ (s.line m).callState = .idle ∧
      (t = .line m ∨ ∃ g, t = .group g ∧ (s.line m).alertGroup = some g) := by
  cases t with
  | line n =>
    simp only [State.candidates, List.mem_ite_nil_right, List.mem_singleton]
    constructor
    · rintro ⟨hidle, rfl⟩
      exact ⟨hidle, .inl rfl⟩
    · rintro ⟨hidle, h | ⟨g, h, _⟩⟩
      · cases h
        exact ⟨hidle, rfl⟩
      · cases h
  | group g => simp [State.candidates, allLines]

theorem State.pairwise_candidates (s : State) (t : Target) : (s.candidates t).Pairwise (· < ·) := by
  cases t with
  | line n =>
    rw [State.candidates]
    split
    · exact List.pairwise_singleton _ n
    · exact List.Pairwise.nil
  | group g =>
    rw [State.candidates]
    exact (List.pairwise_lt_finRange 24).filter _

/-! ### The leading run -/

theorem State.selectAlong_nil (s : State) (sum : Nat) :
    s.selectAlong sum [] = { members := [], dropped := [], load := sum } := rfl

/-- R91: a candidate that fits is taken, and selection goes on with the sum that includes it. -/
theorem State.selectAlong_cons_of_fits {s : State} {sum : Nat} {n : LineNo}
    (h : sum + (s.line n).ringerLoad ≤ s.ring.capacity) (rest : List LineNo) :
    s.selectAlong sum (n :: rest) =
      { s.selectAlong (sum + (s.line n).ringerLoad) rest with
        members := n :: (s.selectAlong (sum + (s.line n).ringerLoad) rest).members } :=
  if_pos h

/-- R91: the first misfit and every candidate after it are dropped. -/
theorem State.selectAlong_cons_of_misfit {s : State} {sum : Nat} {n : LineNo}
    (h : ¬ sum + (s.line n).ringerLoad ≤ s.ring.capacity) (rest : List LineNo) :
    s.selectAlong sum (n :: rest) = { members := [], dropped := n :: rest, load := sum } :=
  if_neg h

/-- R91: what it is for a selection to take a leading run of the candidates, on top of the load `sum`, within the ring
capacity and up to the first misfit. -/
structure State.LeadingRun (s : State) (sum : Nat) (ns : List LineNo) (sel : Selection) : Prop where
  split : sel.members ++ sel.dropped = ns
  load_le : sel.load ≤ s.ring.capacity
  load_eq : sel.load = sum + (sel.members.map fun m => (s.line m).ringerLoad).sum
  misfit : ∀ d, sel.dropped.head? = some d → s.ring.capacity < sel.load + (s.line d).ringerLoad

theorem State.selectAlong_leadingRun (s : State) (ns : List LineNo) {sum : Nat} (hsum : sum ≤ s.ring.capacity) :
    s.LeadingRun sum ns (s.selectAlong sum ns) := by
  induction ns generalizing sum with
  | nil =>
    rw [State.selectAlong_nil]
    exact { split := rfl, load_le := hsum, load_eq := rfl, misfit := nofun }
  | cons n rest ih =>
    by_cases hfits : sum + (s.line n).ringerLoad ≤ s.ring.capacity
    · obtain ⟨hsplit, hle, heq, hmisfit⟩ := ih hfits
      rw [State.selectAlong_cons_of_fits hfits]
      refine { split := congrArg (n :: ·) hsplit, load_le := hle, load_eq := ?_, misfit := hmisfit }
      simp only [List.map_cons, List.sum_cons]
      omega
    · rw [State.selectAlong_cons_of_misfit hfits]
      refine { split := rfl, load_le := hsum, load_eq := rfl, misfit := fun d hd => ?_ }
      obtain rfl : n = d := by simpa using hd
      exact Nat.not_le.1 hfits

/-- R91: the first candidate is a member whatever its load, which counts up to the capacity. -/
theorem State.select_cons (s : State) (n : LineNo) (rest : List LineNo) :
    s.select (n :: rest) =
      some { s.selectAlong (min (s.line n).ringerLoad s.ring.capacity) rest with
        members := n :: (s.selectAlong (min (s.line n).ringerLoad s.ring.capacity) rest).members } := rfl

/-! ### The obligation -/

/-- Settles O16: the capped load of the first candidate, the leading run of the others on top of it, and who the candidates
are. -/
theorem memberSelectionTakesALeadingRun : Obligations.MemberSelectionTakesALeadingRun := by
  unfold Obligations.MemberSelectionTakesALeadingRun
  intro s n rest t
  refine ⟨?_, s.mem_candidates_iff t, s.pairwise_candidates t⟩
  obtain ⟨hsplit, hle, heq, hmisfit⟩ :=
    s.selectAlong_leadingRun rest (Nat.min_le_right (s.line n).ringerLoad s.ring.capacity)
  exact ⟨_, s.select_cons n rest, congrArg (n :: ·) hsplit, rfl, hle, heq, hmisfit⟩

end Sys2Proof.Machine

/-! PROOF. ALERT (R90, R92): the eight checks passed, the bearer taken (R80), the record written at the lowest empty position
and the members alerted. -/

namespace Sys2Proof.Machine

open Sys2Proof.Slice0

/-! ### The checks passed -/

/-- R88: the position that an alert takes is the lowest one that is empty. -/
theorem State.emptyPosition_of_lowest {s : State} {pos : AlertPos} (hempty : s.alertAt pos = none)
    (hlower : ∀ q, q < pos → s.alertAt q ≠ none) : s.emptyPosition = some pos := by
  rw [State.emptyPosition, List.find?_eq_some_iff_getElem]
  refine ⟨decide_eq_true hempty, pos.1, by simp [allPositions], by simp [allPositions], fun j hj => ?_⟩
  have hj8 : j < 8 := hj.trans pos.2
  simpa [allPositions] using hlower ⟨j, hj8⟩ hj

/-- R90, check 3: no record has the number. -/
theorem State.findAlert_of_unused {s : State} {number : Nat} (h : ∀ p a, s.alertAt p = some a → a.number ≠ number) :
    s.findAlert number = none := by
  rw [State.findAlert, List.find?_eq_none]
  intro p _
  cases hp : s.alertAt p with
  | none => exact Bool.false_ne_true
  | some a => exact fun hnum => h p a hp (of_decide_eq_true hnum)

/-- R90, check 4: a cadence field of 4 to 7 names a ring entry. -/
theorem ringCadenceOf_of_le {c : CadenceNo} (h : 4 ≤ c.1) : ringCadenceOf c.1 = some c := by
  rw [ringCadenceOf, if_pos h]
  exact dif_pos c.2

/-- R90, checks 4 and 5: the target that the kind and the number name. -/
theorem targetOf_of_named {kind target : Nat} {t : Target}
    (h : (kind = 0 ∧ ∃ n : LineNo, target = n.1 ∧ t = .line n) ∨
      (kind = 1 ∧ ∃ g : Fin 32, target = g.1 ∧ t = .group g)) :
    targetOf kind target = some (some t) := by
  obtain ⟨rfl, n, rfl, rfl⟩ | ⟨rfl, g, rfl, rfl⟩ := h
  · simp [targetOf]
  · simp [targetOf]

/-! ### The bearer -/

/-- R80: the two sources of the bearer that an ALERT reserves. -/
def State.alertSource (s : State) (b : BearerNo) (taken : State) : Prop :=
  (∃ rest, s.pool.freeList = b :: rest ∧ taken = { s with pool := { s.pool with freeList := rest } }) ∨
    (s.pool.freeList = [] ∧ ∃ x, s.test = some x ∧ x.yields = true ∧ b = x.bearer ∧ taken = testAborted s x .giveUp)

theorem State.bearerForAlert_of_source {s taken : State} {b : BearerNo} (h : s.alertSource b taken) :
    s.bearerForAlert = some (b, taken) := by
  obtain ⟨rest, hfree, rfl⟩ | ⟨hfree, x, htest, hyields, rfl, rfl⟩ := h
  · rw [State.bearerForAlert, hfree]
  · rw [State.bearerForAlert, hfree, htest]
    simp only [hyields, if_true, State.abortTest_of_some htest]

/-- Neither source touches the lines or the alert table. -/
theorem State.alertSource_keeps {s taken : State} {b : BearerNo} (h : s.alertSource b taken) :
    taken.lines = s.lines ∧ taken.ring = s.ring := by
  obtain ⟨_, _, rfl⟩ | ⟨_, _, _, _, _, rfl⟩ := h <;> exact ⟨rfl, rfl⟩

/-! ### Acceptance -/

/-- R92, step 3: the lines when each of a list of members has been alerted. -/
def State.alertedLines (s : State) (number : Nat) (ns : List LineNo) : Vector LineRecord 24 :=
  Vector.ofFn fun n => if n ∈ ns then { s.line n with callState := .alerted, alert := some number } else s.line n

theorem State.alertedLines_of_lines {s u : State} (h : u.lines = s.lines) (number : Nat) (ns : List LineNo) :
    u.alertedLines number ns = s.alertedLines number ns := by
  simp only [State.alertedLines, State.line_of_lines h]

theorem State.line_alertMember (number : Nat) (s : State) (n m : LineNo) :
    (s.alertMember number n).line m =
      if m = n then { s.line m with callState := .alerted, alert := some number } else s.line m := by
  rw [State.alertMember, State.line_modLine]
  split <;> simp_all

/-- R36: alerting the members one after the other changes their line records and nothing else. -/
theorem State.foldl_alertMember_eq (number : Nat) (ns : List LineNo) (s : State) :
    ns.foldl (State.alertMember number) s = { s with lines := s.alertedLines number ns } := by
  induction ns generalizing s with
  | nil =>
    have hlines : s.alertedLines number [] = s.lines := by
      apply Vector.ext
      intro i hi
      simp [State.alertedLines, State.line]
    rw [hlines]
    rfl
  | cons n ns ih =>
    have hlines : (s.alertMember number n).alertedLines number ns = s.alertedLines number (n :: ns) := by
      apply Vector.ext
      intro i hi
      simp only [State.alertedLines, Vector.getElem_ofFn, State.line_alertMember, List.mem_cons]
      grind
    rw [List.foldl_cons, ih, hlines]
    rfl

/-- R92: acceptance writes the record, reserves the bearer, alerts the members and puts the position last in the acceptance
order; then placement is tried. -/
theorem State.acceptAlert_eq (s : State) (pos : AlertPos) (a : AlertRecord) :
    s.acceptAlert pos a =
      ({ s.modBearer a.bearer (fun r =>
          { r with state := .reserved, downReason := none, holder := some (.alert a.number) }) with
        lines := s.alertedLines a.number a.members
        ring := { s.ring with alerts := s.ring.alerts.set pos.1 (some a) pos.2, accepted := s.ring.accepted ++ [pos] }
        : State }).tryPlacement.examine := by
  unfold State.acceptAlert
  dsimp only
  rw [State.foldl_alertMember_eq]
  rfl

/-! ### The outcome of an accepted ALERT -/

/-- R90, R92: an ALERT that passes the eight checks is accepted in the state in which its bearer has left its source, and
answered with the record as the placement try leaves it. -/
theorem exec_alert_of_accepted {s taken : State} {number kind target timeout : Nat} {cadence : CadenceNo} {pos : AlertPos}
    {t : Target} {sel : Selection} {b : BearerNo} (hroom : s.sli.replies.length < 4)
    (hpos : (arrived s).emptyPosition = some pos) (hnum : number ≠ 0) (hunused : (arrived s).findAlert number = none)
    (hcadence : ringCadenceOf cadence.1 = some cadence) (htarget : targetOf kind target = some (some t))
    (hsel : (arrived s).select ((arrived s).candidates t) = some sel)
    (hpower : (arrived s).committed + 6 ≤ (arrived s).power.budget) (hup : (arrived s).highway.state ≠ .down)
    (hbearer : (arrived s).bearerForAlert = some (b, taken)) {a : AlertRecord}
    (ha : newAlert (arrived s) number t sel cadence (clampRingTimeout timeout) b = a) {done : State}
    (hdone : taken.acceptAlert pos a = done) :
    exec (.alert number kind target cadence.1 timeout) s =
      .next (replied done 0x90 (0 :: octet number :: acceptedOctets pos ((done.alertAt pos).getD a))) := by
  refine exec_request_of_serve (r := .alert number kind target cadence.1 timeout) rfl hroom ?_
  have hwithin : ¬ (arrived s).power.budget < (arrived s).committed + Config.answerReservePU := Nat.not_lt.2 hpower
  simp only [Request.serve, State.serveAlert, State.offerAlert, hpos, hunused, hcadence, htarget, hsel, hbearer, ha, hdone,
    if_neg hnum, if_neg hwithin, if_neg hup]
  rfl

/-! ### The obligation -/

/-- Settles O15: the statement's hypotheses pass the checks and give the bearer its source; acceptance is then the state
written out. -/
theorem alertAcceptanceReservesAndAlerts : Obligations.AlertAcceptanceReservesAndAlerts := by
  unfold Obligations.AlertAcceptanceReservesAndAlerts
  intro s number kind target timeout cadence pos t sel b taken hroom u hempty hlower hnum hunused hcadence htarget hsel
    hpower hup (hsource : u.alertSource b taken) a done
  have hnow : u.now = s.now := by simp [u, arrived]
  have hrecord : newAlert u number t sel cadence (clampRingTimeout timeout) b = a := by
    rw [newAlert, hnow]
    rfl
  have hdone : taken.acceptAlert pos a = done := by
    obtain ⟨hlines, hring⟩ := State.alertSource_keeps hsource
    rw [State.acceptAlert_eq, hring, State.alertedLines_of_lines hlines]
    rfl
  exact exec_alert_of_accepted hroom (State.emptyPosition_of_lowest hempty hlower) hnum (State.findAlert_of_unused hunused)
    (ringCadenceOf_of_le hcadence) (targetOf_of_named htarget) hsel hpower hup (State.bearerForAlert_of_source hsource)
    hrecord hdone

end Sys2Proof.Machine

/-! PROOF. LOAD_CADENCE (R132, R133): the legal durations, the truncation of a ring entry at 2000 ms, and the entry replaced. -/

namespace Sys2Proof.Machine

open Sys2Proof.Slice0

/-! ### Legal durations -/

/-- What R132 asks of a segment duration: 10 to 2000 ms, in steps of 10 ms. -/
def segmentLegal (d : Nat) : Prop :=
  10 ≤ d ∧ d ≤ 2000 ∧ d % 10 = 0

theorem segmentLegal_legalSegment (v : Nat) : segmentLegal (legalSegment v) := by
  unfold segmentLegal legalSegment clampTo
  omega

theorem segmentLegal_of_mem_map {durations : List Nat} : ∀ d ∈ durations.map legalSegment, segmentLegal d :=
  List.forall_mem_map.2 fun v _ => segmentLegal_legalSegment v

/-- Sums of legal durations stay multiples of 10 ms, so what is left of 2000 ms is one too. -/
theorem sum_mod_ten_of_legal {ds : List Nat} (h : ∀ d ∈ ds, segmentLegal d) : ds.sum % 10 = 0 := by
  induction ds with
  | nil => rfl
  | cons d ds ih =>
    obtain ⟨⟨_, _, hd⟩, hds⟩ := List.forall_mem_cons.1 h
    have hsum := ih hds
    rw [List.sum_cons]
    omega

/-! ### Truncation -/

theorem truncateSegments_of_full {sum : Nat} (h : 2000 ≤ sum) (ds : List Nat) : truncateSegments sum ds = [] := by
  cases ds with
  | nil => rfl
  | cons d rest => exact if_pos h

/-- R132, step 3: a segment that reaches 2000 ms is the last, shortened to reach it exactly. -/
theorem truncateSegments_cons_of_reaches {sum d : Nat} (hsum : sum < 2000) (h : 2000 ≤ sum + d) (rest : List Nat) :
    truncateSegments sum (d :: rest) = [2000 - sum] := by
  rw [truncateSegments, if_neg (Nat.not_le.2 hsum)]
  obtain hpast | hexact := Nat.lt_or_eq_of_le h
  · exact if_pos hpast
  · rw [if_neg (by omega), truncateSegments_of_full h, show 2000 - sum = d by omega]

theorem truncateSegments_cons_of_within {sum d : Nat} (h : sum + d < 2000) (rest : List Nat) :
    truncateSegments sum (d :: rest) = d :: truncateSegments (sum + d) rest := by
  rw [truncateSegments, if_neg (by omega), if_neg (by omega)]

/-- Durations that stay within 2000 ms are all kept; that each is above 0 keeps one at the limit from being dropped. -/
theorem truncateSegments_of_sum_le {ds : List Nat} (hpos : ∀ d ∈ ds, 0 < d) {sum : Nat} (h : sum + ds.sum ≤ 2000) :
    truncateSegments sum ds = ds := by
  induction ds generalizing sum with
  | nil => rfl
  | cons d rest ih =>
    obtain ⟨hd, hrest⟩ := List.forall_mem_cons.1 hpos
    rw [List.sum_cons, ← Nat.add_assoc] at h
    rw [truncateSegments, if_neg (by omega), if_neg (by omega), ih hrest h]

/-- Durations that go past 2000 ms are kept up to the one that reaches it, which is shortened; the rest is discarded. -/
theorem truncateSegments_of_lt_sum {ds : List Nat} {sum : Nat} (hsum : sum < 2000) (h : 2000 < sum + ds.sum) :
    ∃ kept d rest last, ds = kept ++ d :: rest ∧ truncateSegments sum ds = kept ++ [last] ∧
      sum + (kept ++ [last]).sum = 2000 ∧ 0 < last ∧ last ≤ d := by
  induction ds generalizing sum with
  | nil =>
    rw [List.sum_nil] at h
    omega
  | cons d rest ih =>
    by_cases hreach : 2000 ≤ sum + d
    · refine ⟨[], d, rest, 2000 - sum, rfl, truncateSegments_cons_of_reaches hsum hreach rest, ?_⟩
      rw [List.nil_append, List.sum_singleton]
      omega
    · have hwithin : sum + d < 2000 := Nat.not_le.1 hreach
      rw [List.sum_cons, ← Nat.add_assoc] at h
      obtain ⟨kept, d', rest', last, hsplit, htrunc, htotal, hlast⟩ := ih hwithin h
      refine ⟨d :: kept, d', rest', last, by rw [hsplit]; rfl, ?_, ?_, hlast⟩
      · rw [truncateSegments_cons_of_within hwithin, htrunc]
        rfl
      · rw [List.cons_append, List.sum_cons, ← Nat.add_assoc]
        exact htotal

/-! ### The applied durations -/

section
variable {e : CadenceNo} {durations : List Nat}

/-- R132: a tone entry, and a ring entry within 2000 ms, is applied untruncated. -/
theorem appliedSegments_of_within (h : e.1 < 4 ∨ (durations.map legalSegment).sum ≤ 2000) :
    appliedSegments e durations = durations.map legalSegment := by
  unfold appliedSegments
  dsimp only
  split
  case isFalse => rfl
  case isTrue hring =>
    have hsum : 0 + (durations.map legalSegment).sum ≤ 2000 := by omega
    refine truncateSegments_of_sum_le (fun d hd => ?_) hsum
    obtain ⟨hlow, _⟩ := segmentLegal_of_mem_map d hd
    omega

/-- R132, step 3: a ring entry past 2000 ms is cut to exactly 2000 ms. -/
theorem appliedSegments_of_past (hring : 4 ≤ e.1) (h : 2000 < (durations.map legalSegment).sum) :
    ∃ kept d rest last, durations.map legalSegment = kept ++ d :: rest ∧
      appliedSegments e durations = kept ++ [last] ∧ (kept ++ [last]).sum = 2000 ∧ 0 < last ∧ last ≤ d := by
  have hcut := truncateSegments_of_lt_sum (sum := 0) (by omega) (by rwa [Nat.zero_add])
  simp only [Nat.zero_add] at hcut
  rwa [appliedSegments, if_pos hring]

/-- R132: however an entry is truncated, it keeps a segment and every segment stays legal. -/
theorem appliedSegments_legal (e : CadenceNo) (h : durations ≠ []) :
    appliedSegments e durations ≠ [] ∧ ∀ d ∈ appliedSegments e durations, segmentLegal d := by
  by_cases hwithin : e.1 < 4 ∨ (durations.map legalSegment).sum ≤ 2000
  · rw [appliedSegments_of_within hwithin]
    exact ⟨by simpa using h, segmentLegal_of_mem_map⟩
  · push Not at hwithin
    obtain ⟨kept, d, rest, last, hsplit, happlied, hsum, hpos, hle⟩ := appliedSegments_of_past hwithin.1 hwithin.2
    have hlegal : ∀ x ∈ kept ++ d :: rest, segmentLegal x := hsplit ▸ segmentLegal_of_mem_map
    have hkept : ∀ x ∈ kept, segmentLegal x := fun x hx => hlegal x (List.mem_append_left _ hx)
    obtain ⟨_, hd, _⟩ := hlegal d (by simp)
    have hlast : segmentLegal last := by
      have hmod := sum_mod_ten_of_legal hkept
      rw [List.sum_append, List.sum_singleton] at hsum
      unfold segmentLegal
      omega
    rw [happlied]
    refine ⟨by simp, fun x hx => ?_⟩
    obtain hx | hx := List.mem_append.1 hx
    · exact hkept x hx
    · exact List.mem_singleton.1 hx ▸ hlast

end

/-! ### The entry replaced -/

@[simp] theorem cadenceNo_val (e : CadenceNo) : cadenceNo e.1 = some e :=
  dif_pos e.2

theorem cadenceNo_of_le {v : Nat} (h : 8 ≤ v) : cadenceNo v = none :=
  dif_neg (Nat.not_lt.2 h)

/-- R133: the source of a replaced tone entry restarts if it runs; every other source goes on. -/
theorem restart_eq (k e : CadenceNo) (p : Option TonePosition) (now : Nat) :
    (if k = e then p.map fun _ => ({ segment := 0, began := now } : TonePosition) else p) =
      if e.1 = k.1 ∧ p ≠ none then some { segment := 0, began := now } else p := by
  have hk : k = e ↔ e.1 = k.1 := by rw [Fin.ext_iff, eq_comm]
  simp only [hk]
  cases p <;> simp

theorem State.storeCadence_eq (u : State) (e : CadenceNo) (segments : List Nat) :
    u.storeCadence e segments = { u with tones :=
      { cadences := u.tones.cadences.set e.1 segments e.2
        dial := if e.1 = 0 ∧ u.tones.dial ≠ none then some { segment := 0, began := u.now } else u.tones.dial
        busy := if e.1 = 1 ∧ u.tones.busy ≠ none then some { segment := 0, began := u.now } else u.tones.busy
        congestion := if e.1 = 2 ∧ u.tones.congestion ≠ none then some { segment := 0, began := u.now }
          else u.tones.congestion
        howler := if e.1 = 3 ∧ u.tones.howler ≠ none then some { segment := 0, began := u.now }
          else u.tones.howler } } := by
  unfold State.storeCadence
  simp only [restart_eq]
  rfl

/-! ### The outcomes of LOAD_CADENCE -/

section
variable {s : State} {durations : List Nat} (hroom : s.sli.replies.length < 4)
include hroom

/-- R132: a request that names no entry, or whose count is outside 1 to 4, leaves every entry in force. -/
theorem exec_loadCadence_of_bad_record {v : Nat} (h : 8 ≤ v ∨ durations.length = 0 ∨ 4 < durations.length) :
    exec (.loadCadence v durations) s = .next (replied (arrived s) 0x9B [1]) := by
  refine exec_request_of_serve (r := .loadCadence v durations) rfl hroom ?_
  unfold Request.serve State.serveLoadCadence
  dsimp only
  split
  case h_1 => rfl
  case h_2 hv =>
    have hv : ¬ 8 ≤ v := fun hle => by simp [cadenceNo_of_le hle] at hv
    rw [if_pos (h.resolve_left hv)]
    rfl

/-- R132: any other request replaces its entry, and its reply gives the applied durations. -/
theorem exec_loadCadence_of_entry (e : CadenceNo) (hpos : 1 ≤ durations.length) (hle : durations.length ≤ 4) :
    exec (.loadCadence e.1 durations) s = .next (replied ((arrived s).storeCadence e (appliedSegments e durations)) 0x9B
      (0 :: octet e.1 :: octet (appliedSegments e durations).length ::
        ((appliedSegments e durations).map twoOctets).flatten)) := by
  refine exec_request_of_serve (r := .loadCadence e.1 durations) rfl hroom ?_
  have hcount : ¬ (durations.length = 0 ∨ 4 < durations.length) := by omega
  simp only [Request.serve, State.serveLoadCadence, cadenceNo_val, if_neg hcount, counted, List.length_map]
  rfl

end

/-! ### The obligation -/

/-- Settles O26: the applied durations are those of `appliedSegments`, which keeps or cuts the legal ones. -/
theorem loadCadenceAppliesLegalSegments : Obligations.LoadCadenceAppliesLegalSegments := by
  unfold Obligations.LoadCadenceAppliesLegalSegments
  intro s durations hroom
  refine ⟨fun v hbad => exec_loadCadence_of_bad_record hroom hbad, fun e hpos hle => ?_⟩
  have hnow : (arrived s).now = s.now := by simp [arrived]
  have hlegal := appliedSegments_legal e (List.ne_nil_of_length_pos hpos)
  refine ⟨appliedSegments e durations, ?_, appliedSegments_of_within, fun hring hpast => ?_, hlegal⟩
  · rw [exec_loadCadence_of_entry hroom e hpos hle, State.storeCadence_eq, hnow]
  · obtain ⟨kept, d, rest, last, hsplit, happlied, hsum, _, hlast⟩ := appliedSegments_of_past hring hpast
    exact ⟨kept, d, rest, last, hsplit, happlied, happlied ▸ hsum, hlast⟩

end Sys2Proof.Machine

/-! PROOF. The tone sources (R127, R129, R130): a running source goes round its entry, and a change of tone stops the source
that loses its last listener and starts the one that gains its first. -/

namespace Sys2Proof.Machine

/-! ### The segments of a source -/

theorem exec_toneSegmentEnd (k : ToneKind) (s : State) : exec (.toneSegmentEnd k) s = .next (s.advanceTone k) := rfl

section
variable {s : State} {k : ToneKind}

theorem State.advanceTone_of_idle (h : s.tones.source k = none) : s.advanceTone k = s := by
  rw [State.advanceTone, h]

/-- R127: an entry of one segment has no segment end. -/
theorem State.advanceTone_of_single (h : s.tones.cadences[toneEntry k].length ≤ 1) : s.advanceTone k = s := by
  have hends : s.toneSegmentEnds k = none := by
    unfold State.toneSegmentEnds
    split
    · rfl
    · exact if_pos h
  rw [State.advanceTone, hends]
  cases s.tones.source k <;> rfl

/-- R127: the next segment begins where the present one ends. -/
theorem State.advanceTone_of_running {q : TonePosition} (hq : s.tones.source k = some q)
    (hlen : 2 ≤ s.tones.cadences[toneEntry k].length) :
    s.advanceTone k = { s with tones := s.tones.setSource k (some
      { segment := nextSegment s.tones.cadences[toneEntry k].length q.segment
        began := q.began + s.tones.cadences[toneEntry k].getD q.segment 0 }) } := by
  have hends : s.toneSegmentEnds k = some (q.began + s.tones.cadences[toneEntry k].getD q.segment 0) := by
    rw [State.toneSegmentEnds, hq]
    exact if_neg (by omega)
  rw [State.advanceTone, hq, hends]

end

/-! ### One source joined or left -/

@[simp] theorem Tones.source_setSource (t : Tones) (k j : ToneKind) (p : Option TonePosition) :
    (t.setSource k p).source j = if j = k then p else t.source j := by
  cases k <;> cases j <;> rfl

theorem State.hasListener_iff (s : State) (k : ToneKind) :
    s.hasListener k = true ↔ ∃ m, (s.line m).tone = some k := by
  simp [State.hasListener, allLines]

section
variable {s : State} {k j : ToneKind}

theorem State.leaveSource_of_heard (h : ∃ m, (s.line m).tone = some k) : s.leaveSource k = s :=
  if_pos ((s.hasListener_iff k).2 h)

theorem State.leaveSource_of_unheard (h : ∀ m, (s.line m).tone ≠ some k) :
    s.leaveSource k = { s with tones := s.tones.setSource k none } :=
  if_neg fun heard => not_exists.2 h ((s.hasListener_iff k).1 heard)

theorem State.source_leaveSource_of_ne (h : j ≠ k) : (s.leaveSource k).tones.source j = s.tones.source j := by
  unfold State.leaveSource
  split
  · rfl
  · simp [h]

theorem State.joinSource_of_running (h : s.tones.source k ≠ none) : s.joinSource k = s :=
  if_pos (Option.isSome_iff_ne_none.2 h)

theorem State.joinSource_of_idle (h : s.tones.source k = none) :
    s.joinSource k = { s with tones := s.tones.setSource k (some { segment := 0, began := s.now }) } :=
  if_neg (by simp [h])

theorem State.source_joinSource_of_ne (h : j ≠ k) : (s.joinSource k).tones.source j = s.tones.source j := by
  unfold State.joinSource
  split
  · rfl
  · simp [h]

end

/-! ### A change of tone -/

/-- The source of an old tone is left; no tone has no source. -/
def State.leaveTone (s : State) : Option ToneKind → State
  | some k => s.leaveSource k
  | none => s

/-- The source of a new tone is joined; no tone has no source. -/
def State.joinTone (s : State) : Option ToneKind → State
  | some k => s.joinSource k
  | none => s

theorem State.source_leaveTone_of_ne {s : State} {k : ToneKind} {t : Option ToneKind} (h : t ≠ some k) :
    (s.leaveTone t).tones.source k = s.tones.source k := by
  cases t with
  | none => rfl
  | some j => exact State.source_leaveSource_of_ne fun e => h (congrArg some e.symm)

theorem State.source_joinTone_of_ne {s : State} {k : ToneKind} {t : Option ToneKind} (h : t ≠ some k) :
    (s.joinTone t).tones.source k = s.tones.source k := by
  cases t with
  | none => rfl
  | some j => exact State.source_joinSource_of_ne fun e => h (congrArg some e.symm)

@[simp] theorem State.leaveTone_now (s : State) (t : Option ToneKind) : (s.leaveTone t).now = s.now := by
  cases t <;> simp [State.leaveTone]

/-- Only the line records and the sources change with a tone. -/
theorem State.setTone_frame (s : State) (n : LineNo) (t : Option ToneKind) :
    s.setTone n t = { s with lines := (s.setTone n t).lines, tones := (s.setTone n t).tones } := by
  have hlines : (s.setTone n t).lines = (s.modLine n fun r => { r with tone := t }).lines := by
    rw [State.setTone_eq]
  rw [hlines]
  exact State.setTone_eq s n t

theorem State.setTone_of_eq {s : State} {n : LineNo} {t : Option ToneKind} (h : (s.line n).tone = t) :
    s.setTone n t = s :=
  if_pos h

section
variable {s : State} {n : LineNo} {t : Option ToneKind} {k : ToneKind} (hne : (s.line n).tone ≠ t)
include hne

/-- R130: the line leaves its old source, its tone field already changed, and then joins the new one. -/
theorem State.setTone_of_ne :
    s.setTone n t = ((s.modLine n fun r => { r with tone := t }).leaveTone (s.line n).tone).joinTone t := by
  unfold State.setTone
  dsimp only
  rw [if_neg hne]
  cases t <;> cases (s.line n).tone <;> rfl

theorem State.source_setTone_of_other (hnew : t ≠ some k) (hold : (s.line n).tone ≠ some k) :
    (s.setTone n t).tones.source k = s.tones.source k := by
  rw [State.setTone_of_ne hne, State.source_joinTone_of_ne hnew, State.source_leaveTone_of_ne hold]
  simp

/-- R130: a RUNNING source that gains a listener keeps its position. -/
theorem State.source_setTone_of_join_running (hnew : t = some k) (hrun : s.tones.source k ≠ none) :
    (s.setTone n t).tones.source k = s.tones.source k := by
  subst hnew
  have hleft : ((s.modLine n fun r => { r with tone := some k }).leaveTone (s.line n).tone).tones.source k =
      s.tones.source k := by
    rw [State.source_leaveTone_of_ne hne]
    simp
  rw [State.setTone_of_ne hne, State.joinTone, State.joinSource_of_running (hleft ▸ hrun), hleft]

/-- R130: an IDLE source that gains a listener starts at segment 1. -/
theorem State.source_setTone_of_join_idle (hnew : t = some k) (hidle : s.tones.source k = none) :
    (s.setTone n t).tones.source k = some { segment := 0, began := s.now } := by
  subst hnew
  have hleft : ((s.modLine n fun r => { r with tone := some k }).leaveTone (s.line n).tone).tones.source k = none := by
    rw [State.source_leaveTone_of_ne hne]
    simpa using hidle
  rw [State.setTone_of_ne hne, State.joinTone, State.joinSource_of_idle hleft]
  simp

/-- R130: a source that another line still hears runs on. -/
theorem State.source_setTone_of_leave_heard (hold : (s.line n).tone = some k)
    (hheard : ∃ m, m ≠ n ∧ (s.line m).tone = some k) : (s.setTone n t).tones.source k = s.tones.source k := by
  obtain ⟨m, hm, htone⟩ := hheard
  have hlistener : ((s.modLine n fun r => { r with tone := t }).line m).tone = some k := by simp [hm, htone]
  rw [State.setTone_of_ne hne, State.source_joinTone_of_ne fun e => hne (hold.trans e.symm), hold, State.leaveTone,
    State.leaveSource_of_heard ⟨m, hlistener⟩]
  simp

/-- R130: a source whose last listener has left becomes IDLE. -/
theorem State.source_setTone_of_leave_unheard (hold : (s.line n).tone = some k)
    (hunheard : ∀ m, m ≠ n → (s.line m).tone ≠ some k) : (s.setTone n t).tones.source k = none := by
  have hnew : t ≠ some k := fun e => hne (hold.trans e.symm)
  have hsilent : ∀ m, ((s.modLine n fun r => { r with tone := t }).line m).tone ≠ some k := by
    intro m
    rw [State.line_modLine]
    split
    · exact hnew
    · exact hunheard m ‹_›
  rw [State.setTone_of_ne hne, State.source_joinTone_of_ne hnew, hold, State.leaveTone,
    State.leaveSource_of_unheard hsilent]
  simp

end

/-! ### The obligation -/

/-- Settles O51: the end of a segment is `advanceTone`, and a tone written is its line record changed, its old source left
and its new source joined. -/
theorem toneSourcesRunWhileHeard : Obligations.ToneSourcesRunWhileHeard := by
  unfold Obligations.ToneSourcesRunWhileHeard
  intro s
  refine ⟨fun k => ⟨fun hstays => ?_, fun q hq hlen => ?_⟩, fun n t => ?_⟩
  · rw [exec_toneSegmentEnd]
    obtain hidle | hsingle := hstays
    · rw [State.advanceTone_of_idle hidle]
    · rw [State.advanceTone_of_single hsingle]
  · rw [exec_toneSegmentEnd, State.advanceTone_of_running hq hlen]
    rfl
  · obtain ⟨hcadences, _⟩ := State.setTone_holds s n t
    exact ⟨State.setTone_frame s n t, hcadences, fun m => State.line_setTone s n m t, State.setTone_of_eq, fun hne k =>
      ⟨State.source_setTone_of_join_running hne, State.source_setTone_of_join_idle hne,
        State.source_setTone_of_leave_heard hne, State.source_setTone_of_leave_unheard hne,
        State.source_setTone_of_other hne⟩⟩

end Sys2Proof.Machine

/-! PROOF. CONSERVE (R157, R158): the quiet conditions of Table 10-2 as the model decides them, the set of blockers of
Table 11-4, and the two outcomes. -/

namespace Sys2Proof.Machine

open Sys2Proof.Slice0

/-! ### The lines -/

/-- R157: a line is quiet if it is DEENERGIZED, or IDLE and on hook. -/
theorem State.lineQuiet_iff (s : State) (n : LineNo) :
    s.lineQuiet n = true ↔
      (s.line n).callState = .deenergized ∨ ((s.line n).callState = .idle ∧ (s.scan n).hook = .on) := by
  unfold State.lineQuiet
  cases (s.line n).callState <;> simp

theorem State.mem_unquietLines_iff (s : State) (n : LineNo) :
    n ∈ s.unquietLines ↔
      ¬ ((s.line n).callState = .deenergized ∨ ((s.line n).callState = .idle ∧ (s.scan n).hook = .on)) := by
  rw [← State.lineQuiet_iff]
  simp [State.unquietLines, allLines]

theorem State.pairwise_unquietLines (s : State) : s.unquietLines.Pairwise (· < ·) :=
  (List.pairwise_lt_finRange 24).filter _

theorem State.unquietLines_eq_nil_iff (s : State) :
    s.unquietLines = [] ↔
      ∀ n, (s.line n).callState = .deenergized ∨ ((s.line n).callState = .idle ∧ (s.scan n).hook = .on) := by
  simp only [List.eq_nil_iff_forall_not_mem, State.mem_unquietLines_iff, not_not]

/-! ### The blockers -/

theorem State.blocks_energizing_iff (s : State) : s.blocks .energizing = true ↔ s.scanner.energizeList ≠ [] :=
  decide_eq_true_iff

theorem State.blocks_alerts_iff (s : State) : s.blocks .alerts = true ↔ ∃ p, s.alertAt p ≠ none := by
  simp [State.blocks, allPositions, Option.isSome_iff_ne_none]

theorem State.blocks_test_iff (s : State) : s.blocks .test = true ↔ s.test ≠ none :=
  Option.isSome_iff_ne_none

theorem State.blocks_replies_iff (s : State) : s.blocks .replies = true ↔ s.sli.replies ≠ [] :=
  decide_eq_true_iff

/-- Table 10-2: reports block while the part, a line or a bearer has an event pending, or an alert its report flag. -/
theorem State.blocks_reports_iff (s : State) :
    s.blocks .reports = true ↔ (s.sli.events ≠ [] ∨ (∃ n, (s.line n).events ≠ []) ∨ (∃ b, (s.bearer b).events ≠ []) ∨
      ∃ p a, s.alertAt p = some a ∧ a.reportPending = true) := by
  simp only [State.blocks, State.reportsPending, allLines, allBearers, allPositions, Bool.or_eq_true, List.any_eq_true,
    List.mem_finRange, true_and, decide_eq_true_eq, or_assoc]
  refine or_congr_right (or_congr_right (or_congr_right (exists_congr fun p => ?_)))
  cases s.alertAt p <;> simp

/-- Table 10-2: no blocker is named where the conditions that are not the lines' hold. The report flags of alerts need no
condition of their own, for a part without alerts has none. -/
theorem State.blockers_eq_nil_iff (s : State) :
    s.blockers = [] ↔ s.scanner.energizeList = [] ∧ (∀ p, s.alertAt p = none) ∧ s.test = none ∧ s.sli.events = [] ∧
      (∀ n, (s.line n).events = []) ∧ (∀ b, (s.bearer b).events = []) ∧ s.sli.replies = [] := by
  have hnone : s.blockers = [] ↔ ¬ s.blocks .energizing = true ∧ ¬ s.blocks .alerts = true ∧ ¬ s.blocks .test = true ∧
      ¬ s.blocks .reports = true ∧ ¬ s.blocks .replies = true := by
    simp [State.blockers, blockersInOrder]
  rw [hnone, State.blocks_energizing_iff, State.blocks_alerts_iff, State.blocks_test_iff, State.blocks_reports_iff,
    State.blocks_replies_iff]
  push Not
  constructor
  · rintro ⟨henergize, halerts, htest, ⟨hpart, hline, hbearer, _⟩, hreplies⟩
    exact ⟨henergize, halerts, htest, hpart, hline, hbearer, hreplies⟩
  · rintro ⟨henergize, halerts, htest, hpart, hline, hbearer, hreplies⟩
    have hflags : ∀ p a, s.alertAt p = some a → a.reportPending ≠ true := by simp [halerts]
    exact ⟨henergize, halerts, htest, ⟨hpart, hline, hbearer, hflags⟩, hreplies⟩

/-- Table 11-4: the set of blockers as one octet's value, a bit for each condition that fails. -/
theorem State.sum_bits_blockers (s : State) :
    (s.blockers.map Blocker.bit).sum =
      (if s.blocks .energizing then 1 else 0) + (if s.blocks .alerts then 2 else 0) + (if s.blocks .test then 4 else 0)
        + (if s.blocks .reports then 8 else 0) + (if s.blocks .replies then 16 else 0) := by
  have hcons : ∀ (b : Blocker) (bs : List Blocker), (((b :: bs).filter s.blocks).map Blocker.bit).sum =
      (if s.blocks b then b.bit else 0) + ((bs.filter s.blocks).map Blocker.bit).sum := by
    intro b bs
    cases hb : s.blocks b <;> simp [hb]
  simp only [State.blockers, blockersInOrder, hcons, List.filter_nil, List.map_nil, List.sum_nil, Blocker.bit,
    Nat.add_assoc, Nat.add_zero]

/-! ### The quiet conditions -/

/-- R157: the part is quiet where neither a line nor a blocker is named. -/
theorem quiet_iff (s : State) : quiet s ↔ s.unquietLines = [] ∧ s.blockers = [] := by
  rw [State.unquietLines_eq_nil_iff, State.blockers_eq_nil_iff, quiet]

/-! ### The outcomes of CONSERVE -/

section
variable {s : State} {limit : Nat} (hroom : s.sli.replies.length < 4)
include hroom

/-- R158: a quiet part takes the entry action, and the reply echoes the limit. -/
theorem exec_conserve_of_quiet (h : quiet (arrived s)) :
    exec (.conserve limit) s =
      .next (replied ((arrived s).enterConserve limit) 0x9E [0, octet (limit / 256), octet limit]) := by
  refine exec_request_of_serve (r := .conserve limit) rfl hroom ?_
  simp only [Request.serve, State.serveConserve, if_pos ((quiet_iff _).1 h)]
  rfl

/-- R157: any other part is left as it is, and the reply names what is not quiet. -/
theorem exec_conserve_of_not_quiet (h : ¬ quiet (arrived s)) :
    exec (.conserve limit) s = .next (replied (arrived s) 0x9E
      ([11, octet (limit / 256), octet limit] ++ (arrived s).notQuietOctets)) := by
  refine exec_request_of_serve (r := .conserve limit) rfl hroom ?_
  simp only [Request.serve, State.serveConserve, if_neg (mt (quiet_iff _).2 h)]
  rfl

end

/-- Table 11-6: the lines that are not quiet, counted, each with its call state, then the octet of blockers. -/
theorem State.notQuietOctets_eq (s : State) :
    s.notQuietOctets = octet s.unquietLines.length ::
      ((s.unquietLines.map fun n => [octet n.1, octet (s.line n).callState.code]).flatten
        ++ [octet ((if s.blocks .energizing then 1 else 0) + (if s.blocks .alerts then 2 else 0)
          + (if s.blocks .test then 4 else 0) + (if s.blocks .reports then 8 else 0)
          + (if s.blocks .replies then 16 else 0))]) := by
  rw [State.notQuietOctets, counted, List.length_map, State.sum_bits_blockers, List.cons_append]

/-! ### The obligation -/

/-- Settles O27: a quiet part takes `enterConserve`; the refusal's lines and blockers are the model's own, each named where
its condition fails. -/
theorem conserveEntersWhenQuietElseNamesBlockers : Obligations.ConserveEntersWhenQuietElseNamesBlockers := by
  unfold Obligations.ConserveEntersWhenQuietElseNamesBlockers
  intro s limit hroom u
  have hnow : u.now = s.now := by simp [u, arrived]
  refine ⟨fun hquiet => ?_, fun hblocked => ?_⟩
  · rw [exec_conserve_of_quiet hroom hquiet, State.enterConserve, hnow]
  · refine ⟨u.unquietLines, u.blocks .energizing, u.blocks .alerts, u.blocks .test, u.blocks .reports,
      u.blocks .replies, ?_, u.pairwise_unquietLines, u.mem_unquietLines_iff, u.blocks_energizing_iff,
      u.blocks_alerts_iff, u.blocks_test_iff, u.blocks_replies_iff, u.blocks_reports_iff⟩
    rw [exec_conserve_of_not_quiet hroom hblocked, State.notQuietOctets_eq]
    simp only [List.cons_append, List.nil_append, u]

end Sys2Proof.Machine

/-! PROOF. What a command may do to the three invariants and to the queue of commands, said once of each operation: the
ranges, the phases within the ring capacity and the tone sources with their listeners. -/

namespace Sys2Proof.Machine

open Sys2Proof.Slice0

/-! ### Keeping the invariants -/

/-- What every command does: the queue of commands is as it was, and each invariant that held still holds. -/
structure Upholds (s t : State) : Prop where
  pending : t.pending = s.pending
  ranges : rangesKept s → rangesKept t
  phases : phasesFit s → phasesFit t
  tones : sourcesRunWhileHeard s → sourcesRunWhileHeard t

/-- An operation that upholds the invariants and adds no reply to those that wait (R166). -/
structure Evolves (s t : State) : Prop extends Upholds s t where
  replies : t.sli.replies.length ≤ s.sli.replies.length

/-- An operation that keeps each part of the invariants by itself: no line's tone changes, no source starts or stops, no
alert is placed and the ring capacity stays. What an update does not touch it keeps by definition. -/
structure Calm (s t : State) : Prop where
  pending : t.pending = s.pending
  tone : ∀ n, (t.line n).tone = (s.line n).tone
  source : ∀ k, (t.tones.source k).isSome = (s.tones.source k).isSome
  flash : ∀ n, (s.line n).flashCount ≤ 15 → (t.line n).flashCount ≤ 15
  counts : ∀ n, (s.scan n).pulseCount ≤ 11 ∧ (s.scan n).runCount ≤ 2 →
    (t.scan n).pulseCount ≤ 11 ∧ (t.scan n).runCount ≤ 2
  pool : Safety.queueOrFree s → Safety.queueOrFree t
  budget : s.power.budget ≤ 600 → t.power.budget ≤ 600
  clock : s.ring.clock < Config.ringCycleMs → t.ring.clock < Config.ringCycleMs
  capacity : t.ring.capacity = s.ring.capacity
  load : ∀ p q, alertLoad p (t.alertAt q) ≤ alertLoad p (s.alertAt q)
  placed : ∀ q, inState .placed (t.alertAt q) = true →
    inState .placed (s.alertAt q) = true ∧ (q ∈ s.ring.placed → q ∈ t.ring.placed)
  highway : Safety.highwayTimersAgree s → Safety.highwayTimersAgree t
  replies : t.sli.replies.length ≤ s.sli.replies.length

/-- A part that an operation leaves alone is as it was, by definition. -/
theorem Calm.refl (s : State) : Calm s s where
  pending := rfl
  tone := fun _ => rfl
  source := fun _ => rfl
  flash := fun _ => id
  counts := fun _ => id
  pool := id
  budget := id
  clock := id
  capacity := rfl
  load := fun _ _ => le_rfl
  placed := fun _ h => ⟨h, id⟩
  highway := id
  replies := le_rfl

theorem inState_iff {st : AlertState} {o : Option AlertRecord} :
    inState st o = true ↔ ∃ a, o = some a ∧ a.state = st := by
  cases o <;> simp [inState]

/-- R93: loads that do not rise at any position do not rise in the phase. -/
theorem State.phaseLoad_le_of_load_le {s t : State} {p : PhaseNo}
    (h : ∀ q, alertLoad p (t.alertAt q) ≤ alertLoad p (s.alertAt q)) : t.phaseLoad p ≤ s.phaseLoad p :=
  List.sum_le_sum fun q _ => h q

theorem Calm.evolves {s t : State} (h : Calm s t) : Evolves s t where
  pending := h.pending
  replies := h.replies
  ranges := by
    rintro ⟨hreplies, hpool, ⟨hclock, hlow, hhigh, hbudget⟩, hhighway, hflash, hcounts⟩
    exact ⟨h.replies.trans hreplies, h.pool hpool, ⟨h.clock hclock, h.capacity ▸ hlow, h.capacity ▸ hhigh, h.budget hbudget⟩,
      h.highway hhighway, fun n => h.flash n (hflash n), fun n => h.counts n (hcounts n)⟩
  phases := by
    rintro ⟨hload, hplaced⟩
    refine ⟨fun p => ?_, fun pos a hpos ha => ?_⟩
    · rw [h.capacity]
      exact (State.phaseLoad_le_of_load_le (h.load p)).trans (hload p)
    · obtain ⟨hwas, hstays⟩ := h.placed pos (inState_iff.2 ⟨a, hpos, ha⟩)
      obtain ⟨b, hb, hbplaced⟩ := inState_iff.1 hwas
      exact hstays (hplaced pos b hb hbplaced)
  tones := by
    intro hs k
    rw [← Option.isSome_iff_ne_none, h.source, Option.isSome_iff_ne_none, hs k]
    simp only [h.tone]

theorem Evolves.refl (s : State) : Evolves s s :=
  Calm.evolves { Calm.refl _ with }

theorem Evolves.trans {s t u : State} (h : Evolves s t) (h' : Evolves t u) : Evolves s u where
  pending := h'.pending.trans h.pending
  ranges := h'.ranges ∘ h.ranges
  phases := h'.phases ∘ h.phases
  tones := h'.tones ∘ h.tones
  replies := h'.replies.trans h.replies

theorem Evolves.ite {s t u : State} {c : Prop} [Decidable c] (ht : Evolves s t) (hu : Evolves s u) :
    Evolves s (if c then t else u) := by
  split
  · exact ht
  · exact hu

theorem Upholds.trans {s t u : State} (h : Upholds s t) (h' : Upholds t u) : Upholds s u where
  pending := h'.pending.trans h.pending
  ranges := h'.ranges ∘ h.ranges
  phases := h'.phases ∘ h.phases
  tones := h'.tones ∘ h.tones

/-- An operation repeated over a list upholds what each application does. -/
theorem Evolves.foldl {α : Type} {f : State → α → State} (h : ∀ s a, Evolves s (f s a)) (l : List α) (s : State) :
    Evolves s (l.foldl f s) := by
  induction l generalizing s with
  | nil => exact .refl s
  | cons a l ih => exact (h s a).trans (ih _)

theorem Upholds.foldl {α : Type} {f : State → α → State} (h : ∀ s a, Upholds s (f s a)) (l : List α) (s : State) :
    Upholds s (l.foldl f s) := by
  induction l generalizing s with
  | nil => exact (Evolves.refl s).toUpholds
  | cons a l ih => exact (h s a).trans (ih _)

/-! ### Records -/

theorem State.modLine_evolves (s : State) (n : LineNo) (f : LineRecord → LineRecord)
    (ht : ∀ r, (f r).tone = r.tone) (hf : ∀ r, r.flashCount ≤ 15 → (f r).flashCount ≤ 15) : Evolves s (s.modLine n f) :=
  Calm.evolves
    { Calm.refl _ with
      tone := fun m => by
        rw [State.line_modLine]
        split
        · rw [ht]; simp_all
        · rfl
      flash := fun m hm => by
        rw [State.line_modLine]
        split
        · exact hf _ (by simp_all)
        · exact hm }

theorem State.modScan_evolves (s : State) (n : LineNo) (f : ScanRecord → ScanRecord)
    (hf : ∀ r, r.pulseCount ≤ 11 ∧ r.runCount ≤ 2 → (f r).pulseCount ≤ 11 ∧ (f r).runCount ≤ 2) :
    Evolves s (s.modScan n f) :=
  Calm.evolves
    { Calm.refl _ with
      counts := fun m hm => by
        rw [State.scan_modScan]
        split
        · exact hf _ (by simp_all)
        · exact hm }

/-- A write of an alert position that adds no load and places nothing. -/
theorem State.setAlert_evolves (s : State) (pos : AlertPos) (o : Option AlertRecord)
    (hload : ∀ p, alertLoad p o ≤ alertLoad p (s.alertAt pos))
    (hplaced : inState .placed o = true → inState .placed (s.alertAt pos) = true) : Evolves s (s.setAlert pos o) :=
  Calm.evolves
    { Calm.refl _ with
      load := fun p q => by
        rw [State.alertAt_setAlert]
        split
        · exact ‹q = pos› ▸ hload p
        · exact le_rfl
      placed := fun q hq => by
        rw [State.alertAt_setAlert] at hq
        split at hq
        · exact ⟨‹q = pos› ▸ hplaced hq, id⟩
        · exact ⟨hq, id⟩ }

theorem State.modAlert_evolves (s : State) (pos : AlertPos) (f : AlertRecord → AlertRecord)
    (hload : ∀ p a, alertLoad p (some (f a)) ≤ alertLoad p (some a))
    (hplaced : ∀ a, (f a).state = .placed → a.state = .placed) : Evolves s (s.modAlert pos f) := by
  refine State.setAlert_evolves s pos _ (fun p => ?_) fun h => ?_
  · cases s.alertAt pos with
    | none => exact le_rfl
    | some a => exact hload p a
  · obtain ⟨b, hb, hbplaced⟩ := inState_iff.1 h
    obtain ⟨a, ha, rfl⟩ := Option.map_eq_some_iff.1 hb
    exact inState_iff.2 ⟨a, ha, hplaced a hbplaced⟩

theorem State.modBearer_evolves (s : State) (b : BearerNo) (f : BearerRecord → BearerRecord) : Evolves s (s.modBearer b f) :=
  Calm.evolves { Calm.refl _ with }

theorem State.addLineEvent_evolves (s : State) (n : LineNo) (k : LineEvent) : Evolves s (s.addLineEvent n k) :=
  State.modLine_evolves s n _ (fun _ => by rfl) fun _ => by exact id

theorem State.startTimer_evolves (s : State) (n : LineNo) (k : TimerKind) (ms : Nat) : Evolves s (s.startTimer n k ms) :=
  State.modLine_evolves s n _ (fun _ => by rfl) fun _ => by exact id

theorem State.stopTimer_evolves (s : State) (n : LineNo) : Evolves s (s.stopTimer n) :=
  State.modLine_evolves s n _ (fun _ => by rfl) fun _ => by exact id

theorem State.addBearerEvent_evolves (s : State) (b : BearerNo) (k : BearerEvent) : Evolves s (s.addBearerEvent b k) :=
  State.modBearer_evolves s b _

theorem State.addPartEvent_evolves (s : State) (k : PartEvent) : Evolves s (s.addPartEvent k) :=
  Calm.evolves { Calm.refl _ with }

theorem State.setReceiver_evolves (s : State) (r : ReceiverNo) (n : Option LineNo) : Evolves s (s.setReceiver r n) :=
  Calm.evolves { Calm.refl _ with }

theorem State.setLoop_evolves (s : State) (n : LineNo) (h : Hook) : Evolves s (s.setLoop n h) :=
  Calm.evolves { Calm.refl _ with }

theorem State.hand_evolves (s : State) (h : Handed) : Evolves s (s.hand h) :=
  Calm.evolves { Calm.refl _ with }

theorem State.unhand_evolves (s : State) (h : Handed) : Evolves s (s.unhand h) :=
  Calm.evolves { Calm.refl _ with }

theorem State.dropTrain_evolves (s : State) (n : LineNo) : Evolves s (s.dropTrain n) :=
  State.modScan_evolves s n _ fun _ h => ⟨Nat.zero_le _, h.2⟩

/-! ### A change of tone -/

/-- R129, R130: whatever tone a line is given, each source runs exactly while a line hears it. -/
theorem State.setTone_sources (s : State) (n : LineNo) (t : Option ToneKind) (h : sourcesRunWhileHeard s) :
    sourcesRunWhileHeard (s.setTone n t) := by
  by_cases heq : (s.line n).tone = t
  · rwa [State.setTone_of_eq heq]
  intro k
  by_cases hnew : t = some k
  · have hheard : ∃ m, ((s.setTone n t).line m).tone = some k := ⟨n, by simp [hnew]⟩
    by_cases hidle : s.tones.source k = none
    · rw [State.source_setTone_of_join_idle heq hnew hidle]
      exact iff_of_true (Option.some_ne_none _) hheard
    · rw [State.source_setTone_of_join_running heq hnew hidle]
      exact iff_of_true hidle hheard
  have hline : (∃ m, ((s.setTone n t).line m).tone = some k) ↔ ∃ m, m ≠ n ∧ (s.line m).tone = some k := by
    refine exists_congr fun m => ?_
    rw [State.line_setTone]
    split <;> simp_all
  rw [hline]
  by_cases hold : (s.line n).tone = some k
  · by_cases hheard : ∃ m, m ≠ n ∧ (s.line m).tone = some k
    · rw [State.source_setTone_of_leave_heard heq hold hheard, h k]
      exact ⟨fun _ => hheard, fun ⟨m, _, hm⟩ => ⟨m, hm⟩⟩
    · have hsilent : ∀ m, m ≠ n → (s.line m).tone ≠ some k := fun m hm hk => hheard ⟨m, hm, hk⟩
      simp [State.source_setTone_of_leave_unheard heq hold hsilent, hheard]
  · rw [State.source_setTone_of_other heq hnew hold, h k]
    refine exists_congr fun m => ⟨fun hm => ⟨?_, hm⟩, And.right⟩
    rintro rfl
    exact hold hm

theorem State.setTone_evolves (s : State) (n : LineNo) (t : Option ToneKind) : Evolves s (s.setTone n t) := by
  have hframe := State.setTone_frame s n t
  have hflash : ∀ m, ((s.setTone n t).line m).flashCount = (s.line m).flashCount := by
    intro m
    rw [State.line_setTone]
    split <;> simp_all
  refine ⟨⟨by simp, fun hr => ?_, fun hp => ?_, State.setTone_sources s n t⟩, by simp⟩
  · obtain ⟨hreplies, hpool, hranges, hhighway, hcount, hcounts⟩ := hr
    have hscan : ∀ m, (s.setTone n t).scan m = s.scan m := State.scan_of_scanner (by simp)
    rw [hframe]
    exact ⟨hreplies, hpool, hranges, hhighway, fun m => (hflash m).trans_le (hcount m), fun m => hscan m ▸ hcounts m⟩
  · rw [hframe]
    exact hp

/-! ### Feed and dialling -/

theorem State.examine_evolves (s : State) : Evolves s s.examine := by
  unfold State.examine
  dsimp only
  split
  · exact .refl s
  · exact Calm.evolves { Calm.refl _ with }

theorem State.joinRoll_evolves (s : State) (n : LineNo) (c : Feed) : Evolves s (s.joinRoll n c) :=
  Evolves.trans (t := { s with power := { s.power with roll := s.power.roll ++ [n] } })
    (Calm.evolves { Calm.refl _ with })
    (State.modLine_evolves _ n _ (fun _ => by rfl) fun _ => by exact id)

theorem State.leaveRoll_evolves (s : State) (n : LineNo) : Evolves s (s.leaveRoll n) :=
  Evolves.trans (t := { s with power := { s.power with roll := s.power.roll.erase n } })
    (Calm.evolves { Calm.refl _ with })
    (State.modLine_evolves _ n _ (fun _ => by rfl) fun _ => by exact id)

theorem State.giveDialTone_evolves (s : State) (n : LineNo) : Evolves s (s.giveDialTone n) :=
  (State.setTone_evolves s n _).trans (State.startTimer_evolves _ n _ _)

theorem State.attachReceiver_evolves (s : State) (r : ReceiverNo) (n : LineNo) : Evolves s (s.attachReceiver r n) :=
  (State.setReceiver_evolves s r _).trans (State.modLine_evolves _ n _ (fun _ => by rfl) fun _ => by exact id)

theorem State.enterDial_evolves (s : State) (n : LineNo) : Evolves s (s.enterDial n) := by
  unfold State.enterDial
  split
  · exact State.giveDialTone_evolves s n
  · split
    · exact (State.attachReceiver_evolves s _ n).trans (State.giveDialTone_evolves _ n)
    · exact Evolves.trans (Calm.evolves (by exact { Calm.refl _ with })) (State.startTimer_evolves _ n _ _)

theorem State.admitLine_evolves (s : State) (n : LineNo) (c : Feed) : Evolves s (s.admitLine n c) :=
  (State.joinRoll_evolves s n c).trans <| (State.modLine_evolves _ n _ (fun _ => by rfl) fun _ => by exact id).trans <|
    (State.addLineEvent_evolves _ n _).trans (State.enterDial_evolves _ n)

theorem State.handOnReceiver_evolves (s : State) (r : ReceiverNo) : Evolves s (s.handOnReceiver r) := by
  unfold State.handOnReceiver
  split
  case h_1 => exact State.setReceiver_evolves s r none
  case h_2 h rest _ =>
    have hattach : Evolves s
        (({ s with collector := { s.collector with waitList := rest } } : State).attachReceiver r h) :=
      Evolves.trans (Calm.evolves (by exact { Calm.refl _ with })) (State.attachReceiver_evolves _ r h)
    dsimp only
    split
    · exact hattach.trans (State.giveDialTone_evolves _ h)
    · exact hattach

theorem State.leaveDial_evolves (s : State) (n : LineNo) : Evolves s (s.leaveDial n) := by
  refine ((State.stopTimer_evolves s n).trans (State.dropTrain_evolves _ n)).trans ?_
  unfold State.leaveDial
  dsimp only
  split
  · exact (State.modLine_evolves _ n _ (fun _ => by rfl) fun _ => by exact id).trans (State.handOnReceiver_evolves _ _)
  · exact Calm.evolves { Calm.refl _ with }

theorem State.toIdle_evolves (s : State) (n : LineNo) : Evolves s (s.toIdle n) :=
  (State.setTone_evolves s n none).trans <| (State.leaveRoll_evolves _ n).trans
    (State.modLine_evolves _ n _ (fun _ => by rfl) fun _ => by exact id)

theorem State.toClearing_evolves (s : State) (n : LineNo) (t : Option ToneKind) (k : LineEvent) :
    Evolves s (s.toClearing n t k) :=
  (State.modLine_evolves s n _ (fun _ => by rfl) fun _ => by exact id).trans <| (State.setTone_evolves _ n t).trans <|
    (State.startTimer_evolves _ n _ _).trans (State.addLineEvent_evolves _ n k)

theorem State.toLockout_evolves (s : State) (n : LineNo) : Evolves s (s.toLockout n) :=
  (State.leaveRoll_evolves s n).trans <| (State.modLine_evolves _ n _ (fun _ => by rfl) fun _ => by exact id).trans <|
    (State.setTone_evolves _ n _).trans <| (State.startTimer_evolves _ n _ _).trans (State.addLineEvent_evolves _ n _)

end Sys2Proof.Machine

namespace Sys2Proof.Machine

open Sys2Proof.Slice0

/-! ### Ring phases -/

theorem alertLoad_of_not_placed {p : PhaseNo} {a : AlertRecord} (h : a.state ≠ .placed) : alertLoad p (some a) = 0 :=
  if_neg fun hp => h hp.1

/-- R93: a change of one position's record changes a phase load by that record's load alone. -/
theorem State.phaseLoad_le_add {s t : State} {pos : AlertPos} {p : PhaseNo} {load : Nat}
    (hother : ∀ q, q ≠ pos → t.alertAt q = s.alertAt q)
    (hpos : alertLoad p (t.alertAt pos) ≤ alertLoad p (s.alertAt pos) + load) : t.phaseLoad p ≤ s.phaseLoad p + load := by
  have hsum : ∀ l : List AlertPos, l.Nodup → (l.map fun q => alertLoad p (t.alertAt q)).sum ≤
      (l.map fun q => alertLoad p (s.alertAt q)).sum + load := by
    intro l hl
    induction hl with
    | nil => exact Nat.zero_le _
    | @cons q l hq _ ih =>
      simp only [List.map_cons, List.sum_cons]
      by_cases h : q = pos
      · subst h
        have hrest : (l.map fun q => alertLoad p (t.alertAt q)) = l.map fun q => alertLoad p (s.alertAt q) :=
          List.map_congr_left fun r hr => by rw [hother r (hq r hr).symm]
        rw [hrest]
        omega
      · rw [hother q h]
        omega
  exact hsum _ (List.nodup_finRange 8)

theorem State.alertAt_place (s : State) (pos q : AlertPos) (p : PhaseNo) :
    (s.place pos p).alertAt q =
      if q = pos then (s.alertAt pos).map fun a =>
        { a with state := .placed, phase := some p, reportPending := true
                 burst := if s.untilWindow p = 0 then startBurst s.tones.cadences[a.cadence] s.now else none }
      else s.alertAt q :=
  State.alertAt_modAlert s pos q _

/-- R96: placement in a phase that has room for the load keeps the phases within the capacity. -/
theorem State.place_evolves {s : State} {pos : AlertPos} {p : PhaseNo} {a : AlertRecord} (ha : s.alertAt pos = some a)
    (hroom : s.phaseLoad p + a.load ≤ s.ring.capacity) : Evolves s (s.place pos p) where
  pending := rfl
  replies := le_rfl
  ranges := id
  tones := id
  phases := by
    rintro ⟨hload, hplaced⟩
    have hother : ∀ q, q ≠ pos → (s.place pos p).alertAt q = s.alertAt q := fun q hq => by
      rw [State.alertAt_place, if_neg hq]
    have hcap : (s.place pos p).ring.capacity = s.ring.capacity := rfl
    refine ⟨fun r => ?_, fun q b hq hb => ?_⟩
    · rw [hcap]
      by_cases hr : r = p
      · subst hr
        refine (State.phaseLoad_le_add hother (load := a.load) ?_).trans hroom
        rw [State.alertAt_place, if_pos rfl, ha]
        simp [alertLoad]
      · refine (State.phaseLoad_le_add hother (load := 0) ?_).trans (hload r)
        rw [State.alertAt_place, if_pos rfl, ha]
        simp [alertLoad, Ne.symm hr]
    · change q ∈ s.ring.placed.erase pos ++ [pos]
      by_cases h : q = pos
      · simp [h]
      · rw [hother q h] at hq
        exact List.mem_append_left _ ((List.mem_erase_of_ne h).2 (hplaced q b hq hb))

theorem State.soonest_mem {s : State} {l : List PhaseNo} {p : PhaseNo} (h : s.soonest l = some p) : p ∈ l := by
  induction l with
  | nil => exact absurd h (by simp [State.soonest])
  | cons q l ih =>
    rw [State.soonest] at h
    cases hl : s.soonest l with
    | none => simp_all
    | some r =>
      simp only [hl] at h
      split at h
      · simp_all
      · exact List.mem_cons_of_mem q (ih (hl.trans h))

/-- R96: the phase that a placement try finds qualifies. -/
theorem State.qualifies_of_phaseFor {s : State} {load : Nat} {p : PhaseNo} (h : s.phaseFor load = some p) :
    s.phaseLoad p + load ≤ s.ring.capacity ∧ s.committedWith p load ≤ s.power.budget :=
  of_decide_eq_true (List.mem_filter.1 (State.soonest_mem h)).2

theorem State.placeAlong_evolves (s : State) (l : List AlertPos) : Evolves s (s.placeAlong l) := by
  induction l generalizing s with
  | nil => exact .refl s
  | cons pos l ih =>
    unfold State.placeAlong
    split
    · exact .refl s
    · split
      · exact .refl s
      · exact (State.place_evolves ‹_› (State.qualifies_of_phaseFor ‹_›).1).trans (ih _)

theorem State.tryPlacement_evolves (s : State) : Evolves s s.tryPlacement :=
  State.placeAlong_evolves s _

/-- An alert that leaves its phase, whatever else becomes of it, may leave the placement order. -/
theorem State.leavePhase_evolves (s : State) (pos : AlertPos) (f : AlertRecord → AlertRecord)
    (hf : ∀ a, (f a).state ≠ .placed) :
    Evolves s { s.modAlert pos f with
      ring := { (s.modAlert pos f).ring with placed := (s.modAlert pos f).ring.placed.erase pos } } := by
  refine (State.modAlert_evolves s pos f (fun p a => ?_) fun a h => absurd h (hf a)).trans <| Calm.evolves
    { Calm.refl _ with placed := fun q hq => ⟨hq, fun hmem => (List.mem_erase_of_ne ?_).2 hmem⟩ }
  · rw [alertLoad_of_not_placed (hf a)]
    exact Nat.zero_le _
  · rintro rfl
    obtain ⟨b, hb, hbplaced⟩ := inState_iff.1 hq
    have hb' : (s.alertAt q).map f = some b := by simpa [State.alertAt, State.modAlert, State.setAlert] using hb
    obtain ⟨a, _, rfl⟩ := Option.map_eq_some_iff.1 hb'
    exact hf a hbplaced

theorem State.unplace_evolves (s : State) (pos : AlertPos) : Evolves s (s.unplace pos) :=
  State.leavePhase_evolves s pos _ fun _ => by simp

theorem State.endRecord_evolves (s : State) (pos : AlertPos) (st : AlertState) (cause : Option AlertCause)
    (answering : Option LineNo) (h : st ≠ .placed) : Evolves s (s.endRecord pos st cause answering) :=
  State.leavePhase_evolves s pos _ fun _ => h

theorem State.returnMember_evolves (s : State) (n : LineNo) : Evolves s (s.returnMember n) := by
  unfold State.returnMember
  split
  · exact State.toIdle_evolves s n
  · exact .refl s

theorem State.returnMembers_evolves (s : State) (ns : List LineNo) : Evolves s (s.returnMembers ns) :=
  .foldl State.returnMember_evolves ns s

theorem State.endUnanswered_evolves (s : State) (pos : AlertPos) (st : AlertState) (cause : Option AlertCause)
    (h : st ≠ .placed) : Evolves s (s.endUnanswered pos st cause) := by
  unfold State.endUnanswered
  split
  · exact .refl s
  · exact (State.endRecord_evolves s pos st cause none h).trans (State.returnMembers_evolves _ _)

/-! ### Fitting the phases to a capacity -/

/-- What fitting keeps of the placement order: every PLACED alert stands in it (R99). -/
def State.placedListed (s : State) : Prop :=
  ∀ pos, inState .placed (s.alertAt pos) = true → pos ∈ s.ring.placed

theorem phasesFit_iff (s : State) : phasesFit s ↔ (∀ p, s.phaseLoad p ≤ s.ring.capacity) ∧ s.placedListed := by
  simp [phasesFit, State.placedListed, inState_iff]

theorem State.alertAt_unplace (s : State) (pos q : AlertPos) :
    (s.unplace pos).alertAt q =
      if q = pos then (s.alertAt pos).map fun a =>
        { a with state := .queued, phase := none, burst := none, reportPending := true }
      else s.alertAt q :=
  State.alertAt_modAlert s pos q _

theorem State.alertLoad_unplace_le (s : State) (pos q : AlertPos) (p : PhaseNo) :
    alertLoad p ((s.unplace pos).alertAt q) ≤ alertLoad p (s.alertAt q) := by
  rw [State.alertAt_unplace]
  split
  · cases s.alertAt pos <;> simp [alertLoad]
  · exact le_rfl

theorem State.placedListed_unplace {s : State} (pos : AlertPos) (h : s.placedListed) : (s.unplace pos).placedListed := by
  intro q hq
  rw [State.alertAt_unplace] at hq
  split at hq
  · cases hpos : s.alertAt pos <;> simp [hpos, inState] at hq
  · exact (List.mem_erase_of_ne ‹_›).2 (h q hq)

/-- R99: fitting a phase raises no load and keeps every PLACED alert in the placement order. -/
theorem State.fitPhase_eases (s : State) (p : PhaseNo) (l : List AlertPos) :
    (∀ r q, alertLoad r ((s.fitPhase p l).alertAt q) ≤ alertLoad r (s.alertAt q)) ∧
      (s.placedListed → (s.fitPhase p l).placedListed) := by
  induction l generalizing s with
  | nil => exact ⟨fun _ _ => le_rfl, id⟩
  | cons pos l ih =>
    unfold State.fitPhase
    split
    · exact ⟨fun _ _ => le_rfl, id⟩
    · split
      · obtain ⟨hload, hlisted⟩ := ih (s.unplace pos)
        exact ⟨fun r q => (hload r q).trans (s.alertLoad_unplace_le pos q r),
          fun h => hlisted (State.placedListed_unplace pos h)⟩
      · exact ih s

/-- R99: when every alert of the phase has been reached, the phase fits. -/
theorem State.fitPhase_fits (s : State) (p : PhaseNo) (l : List AlertPos)
    (h : ∀ q, alertLoad p (s.alertAt q) ≠ 0 → q ∈ l) : (s.fitPhase p l).phaseLoad p ≤ s.ring.capacity := by
  induction l generalizing s with
  | nil =>
    have hzero : (s.fitPhase p []).phaseLoad p = 0 := by
      refine List.sum_eq_zero fun x hx => ?_
      obtain ⟨q, _, rfl⟩ := List.mem_map.1 hx
      exact not_not.1 fun hq => List.not_mem_nil (h q hq)
    omega
  | cons pos l ih =>
    unfold State.fitPhase
    split
    · assumption
    · split
      · have hcap : (s.unplace pos).ring.capacity = s.ring.capacity := by simp
        refine hcap ▸ ih (s.unplace pos) fun q hq => ?_
        rw [State.alertAt_unplace] at hq
        split at hq
        · cases hpos : s.alertAt pos <;> simp [hpos, alertLoad] at hq
        · exact List.mem_of_ne_of_mem ‹_› (h q hq)
      · refine ih s fun q hq => List.mem_of_ne_of_mem ?_ (h q hq)
        rintro rfl
        cases hpos : s.alertAt q <;> simp_all [alertLoad, placedIn]

theorem State.mem_placed_of_load {s : State} (h : s.placedListed) {p : PhaseNo} {q : AlertPos}
    (hq : alertLoad p (s.alertAt q) ≠ 0) : q ∈ s.ring.placed := by
  refine h q ?_
  cases ha : s.alertAt q with
  | none => simp [ha, alertLoad] at hq
  | some a => simp_all [alertLoad, inState]

/-- R99: fitting brings the phases of a list within the capacity, one after the other. -/
theorem State.foldl_fitPhase_fits (l : List PhaseNo) (s : State) (h : s.placedListed) :
    (∀ p, p ∈ l ∨ s.phaseLoad p ≤ s.ring.capacity →
      (l.foldl (fun t p => t.fitPhase p t.ring.placed.reverse) s).phaseLoad p ≤ s.ring.capacity) ∧
      (l.foldl (fun t p => t.fitPhase p t.ring.placed.reverse) s).placedListed := by
  induction l generalizing s with
  | nil => exact ⟨fun p hp => hp.resolve_left List.not_mem_nil, h⟩
  | cons r l ih =>
    obtain ⟨hload, hlisted⟩ := s.fitPhase_eases r s.ring.placed.reverse
    obtain ⟨hfits, hlist⟩ := ih (s.fitPhase r s.ring.placed.reverse) (hlisted h)
    have hcap : (s.fitPhase r s.ring.placed.reverse).ring.capacity = s.ring.capacity := by simp
    rw [hcap] at hfits
    refine ⟨fun p hp => hfits p ?_, hlist⟩
    by_cases hpr : p = r
    · subst hpr
      exact .inr (s.fitPhase_fits p _ fun q hq => List.mem_reverse.2 (State.mem_placed_of_load h hq))
    · obtain hmem | hle := hp
      · exact .inl (List.mem_of_ne_of_mem hpr hmem)
      · exact .inr ((State.phaseLoad_le_of_load_le (hload p)).trans hle)

theorem State.phasesFit_fitPhases {s : State} (h : s.placedListed) : phasesFit s.fitPhases := by
  obtain ⟨hfits, hlist⟩ := State.foldl_fitPhase_fits allPhases s h
  have hcap : s.fitPhases.ring.capacity = s.ring.capacity := by simp
  exact (phasesFit_iff _).2 ⟨fun p => hcap ▸ hfits p (.inl (List.mem_finRange p)), hlist⟩

theorem State.fitPhase_evolves (s : State) (p : PhaseNo) (l : List AlertPos) : Evolves s (s.fitPhase p l) := by
  induction l generalizing s with
  | nil => exact .refl s
  | cons pos l ih =>
    unfold State.fitPhase
    exact .ite (.refl s) (.ite ((State.unplace_evolves s pos).trans (ih _)) (ih s))

theorem State.fitPhases_evolves (s : State) : Evolves s s.fitPhases :=
  .foldl (fun t p => State.fitPhase_evolves t p _) allPhases s

end Sys2Proof.Machine

namespace Sys2Proof.Machine

open Sys2Proof.Slice0

/-! ### The account -/

theorem State.changeFeed_evolves (s : State) (n : LineNo) (c : Feed) : Evolves s (s.changeFeed n c) :=
  (State.modLine_evolves s n _ (fun _ => by rfl) fun _ => by exact id).trans (State.addLineEvent_evolves _ n _)

theorem State.admitAlong_evolves (s : State) (l : List LineNo) : Evolves s (s.admitAlong l) := by
  induction l generalizing s with
  | nil => exact .refl s
  | cons n l ih =>
    unfold State.admitAlong
    split
    · exact .refl s
    · exact Evolves.trans (Calm.evolves (by exact { Calm.refl _ with })) ((State.admitLine_evolves _ n _).trans (ih _))

theorem State.upgradeAlong_evolves (s : State) (l : List LineNo) : Evolves s (s.upgradeAlong l) := by
  induction l generalizing s with
  | nil => exact .refl s
  | cons n l ih =>
    unfold State.upgradeAlong
    split
    · exact (State.changeFeed_evolves s n _).trans (ih _)
    · exact ih s

theorem State.reevaluate_evolves (s : State) : Evolves s s.reevaluate :=
  (State.admitAlong_evolves s _).trans <| (State.tryPlacement_evolves _).trans (State.upgradeAlong_evolves _ _)

theorem State.shedRinging_evolves (s : State) (l : List AlertPos) : Evolves s (s.shedRinging l) := by
  induction l generalizing s with
  | nil => exact .refl s
  | cons pos l ih =>
    unfold State.shedRinging
    split
    · exact .refl s
    · split
      · exact (State.unplace_evolves s pos).trans (ih _)
      · exact ih s

theorem State.shedFeed_evolves (s : State) (l : List LineNo) : Evolves s (s.shedFeed l) := by
  induction l generalizing s with
  | nil => exact .refl s
  | cons n l ih =>
    unfold State.shedFeed
    split
    · exact .refl s
    · split
      · exact (State.changeFeed_evolves s n _).trans (ih _)
      · exact ih s

theorem State.shed_evolves (s : State) : Evolves s s.shed :=
  (State.shedRinging_evolves s _).trans (State.shedFeed_evolves _ _)

theorem State.settle_evolves (before : Nat) (s : State) : Evolves s (s.settle before) := by
  unfold State.settle
  split
  · exact (State.reevaluate_evolves s).trans (State.examine_evolves _)
  · exact State.examine_evolves s

theorem State.accounted_evolves (s : State) {f : State → State} (h : Evolves s (f s)) : Evolves s (s.accounted f) :=
  h.trans (State.settle_evolves _ _)

/-! ### Bearers -/

theorem State.abortTest_evolves (s : State) (c : TestCause) : Evolves s (s.abortTest c) := by
  unfold State.abortTest
  split
  · exact .refl s
  · exact Calm.evolves { Calm.refl _ with }

theorem State.hold_evolves (s : State) (n : LineNo) (b : BearerNo) : Evolves s (s.hold n b) :=
  (State.modBearer_evolves s b _).trans (State.modLine_evolves _ n _ (fun _ => by rfl) fun _ => by exact id)

theorem State.grant_evolves (s : State) (n : LineNo) (b : BearerNo) : Evolves s (s.grant n b) :=
  (State.hold_evolves s n b).trans (State.addLineEvent_evolves _ n _)

/-- R71, R77: the entry rule adds to the free list only with the seizure queue empty. -/
theorem State.enterFree_evolves (s : State) (b : BearerNo) : Evolves s (s.enterFree b) := by
  unfold State.enterFree
  split
  · exact (State.modBearer_evolves s b _).trans (State.addBearerEvent_evolves _ b _)
  · split
    case h_1 hqueue =>
      refine Evolves.trans ?_ (State.grant_evolves _ _ b)
      exact Calm.evolves { Calm.refl _ with pool := fun h => .inr (h.resolve_left (by simp [hqueue])) }
    case h_2 hqueue =>
      refine Evolves.trans ?_ (State.modBearer_evolves _ b _)
      exact Calm.evolves { Calm.refl _ with pool := fun _ => .inl hqueue }

/-- R77: a line queues only while no bearer is FREE. -/
theorem State.joinQueue_evolves {s : State} (n : LineNo) (c : QueueClass) (h : s.pool.freeList = []) :
    Evolves s (s.joinQueue n c) :=
  Evolves.trans (t := { s with pool := { s.pool with queue := enqueue s.pool.queue n c } })
    (Calm.evolves { Calm.refl _ with pool := fun _ => .inr h })
    ((State.modLine_evolves _ n _ (fun _ => by rfl) fun _ => by exact id).trans
      (State.startTimer_evolves _ n _ _))

theorem State.leaveQueue_evolves (s : State) (n : LineNo) : Evolves s (s.leaveQueue n) :=
  Calm.evolves { Calm.refl _ with pool := fun h => h.imp_left fun hq => by simp [State.leaveQueue, hq] }

theorem State.preemptAlert_evolves {s : State} (n : LineNo) (h : s.pool.freeList = []) : Evolves s (s.preemptAlert n) := by
  unfold State.preemptAlert
  split
  · exact State.joinQueue_evolves n _ h
  · split
    · exact State.joinQueue_evolves n _ h
    · exact (State.endUnanswered_evolves s _ _ _ (by simp)).trans (State.grant_evolves _ n _)

theorem State.supply_evolves (s : State) (n : LineNo) (c : QueueClass) : Evolves s (s.supply n c) := by
  unfold State.supply
  split
  case h_1 hfree =>
    refine Evolves.trans ?_ (State.grant_evolves _ n _)
    exact Calm.evolves { Calm.refl _ with pool := fun h => .inl (h.resolve_right (by simp [hfree])) }
  case h_2 hfree =>
    split
    · split
      · exact (State.abortTest_evolves s _).trans (State.grant_evolves _ n _)
      · split
        · exact (State.abortTest_evolves s _).trans (State.grant_evolves _ n _)
        · exact State.joinQueue_evolves n _ hfree
    · split
      · exact State.preemptAlert_evolves n hfree
      · exact State.joinQueue_evolves n _ hfree

theorem State.bearerForAlert_evolves {s t : State} {b : BearerNo} (h : s.bearerForAlert = some (b, t)) : Evolves s t := by
  unfold State.bearerForAlert at h
  split at h
  case h_1 hfree =>
    obtain ⟨_, rfl⟩ := Prod.mk.injEq .. ▸ Option.some.inj h
    exact Calm.evolves { Calm.refl _ with pool := fun h => .inl (h.resolve_right (by simp [hfree])) }
  case h_2 =>
    split at h
    · split at h
      · obtain ⟨_, rfl⟩ := Prod.mk.injEq .. ▸ Option.some.inj h
        exact State.abortTest_evolves s _
      · exact absurd h (by simp)
    · exact absurd h (by simp)

theorem State.handBack_evolves (s : State) (n : LineNo) : Evolves s (s.handBack n) := by
  unfold State.handBack
  split
  · exact .refl s
  · exact (State.modLine_evolves s n _ (fun _ => by rfl) fun _ => by exact id).trans (State.enterFree_evolves _ _)

theorem State.endReturning_evolves (s : State) (pos : AlertPos) (st : AlertState) (h : st ≠ .placed) :
    Evolves s (s.endReturning pos st) := by
  unfold State.endReturning
  split
  · exact .refl s
  · exact (State.endUnanswered_evolves s pos st none h).trans (State.enterFree_evolves _ _)

/-! ### Calls -/

theorem State.originate_evolves (s : State) (n : LineNo) : Evolves s (s.originate n) := by
  unfold State.originate
  refine Evolves.trans ?_ (State.examine_evolves _)
  split
  · exact State.admitLine_evolves s n _
  · exact Evolves.trans (Calm.evolves (by exact { Calm.refl _ with }))
      ((State.modLine_evolves _ n _ (fun _ => by rfl) fun _ => by exact id).trans (State.addLineEvent_evolves _ n _))

theorem State.toIdle_released_evolves (s : State) (n : LineNo) : Evolves s ((s.toIdle n).addLineEvent n .released) :=
  (State.toIdle_evolves s n).trans (State.addLineEvent_evolves _ n _)

theorem State.releaseCall_evolves (s : State) (n : LineNo) : Evolves s (s.releaseCall n) := by
  unfold State.releaseCall
  split
  case h_1 => exact Evolves.trans (Calm.evolves (by exact { Calm.refl _ with })) (State.toIdle_released_evolves _ n)
  case h_2 => exact (State.leaveDial_evolves s n).trans (State.toIdle_released_evolves _ n)
  case h_3 => exact (State.leaveQueue_evolves s n).trans (State.toIdle_released_evolves _ n)
  case h_4 => exact (State.handBack_evolves s n).trans (State.toIdle_released_evolves _ n)
  case h_5 | h_6 => exact State.toIdle_released_evolves s n
  case h_7 | h_8 | h_9 => exact .refl s

theorem State.release_evolves (s : State) (n : LineNo) : Evolves s (s.release n) := by
  unfold State.release
  refine Evolves.trans ?_ (State.accounted_evolves _ (State.releaseCall_evolves _ n))
  exact (State.dropTrain_evolves s n).trans (State.modScan_evolves _ n _ fun _ h => h)

theorem State.flash_evolves (s : State) (n : LineNo) : Evolves s (s.flash n) :=
  (State.modLine_evolves s n _ (fun _ => by rfl) fun _ _ => by exact Nat.min_le_left _ _).trans
    (State.addLineEvent_evolves _ n _)

theorem State.answerFeed_evolves (s : State) (pos : AlertPos) (n : LineNo) : Evolves s (s.answerFeed pos n) := by
  have hjoin : Evolves s ((s.endRecord pos .answered none (some n)).joinRoll n .reduced) :=
    (State.endRecord_evolves s pos _ _ _ (by simp)).trans (State.joinRoll_evolves _ n _)
  unfold State.answerFeed
  dsimp only
  split
  · exact hjoin.trans (State.modLine_evolves _ n _ (fun _ => by rfl) fun _ => by exact id)
  · exact hjoin

/-- R97, R116: what follows an answer, by whether the total has fallen. -/
theorem State.reevaluateOrPlace_evolves (before : Nat) (s : State) :
    Evolves s (if s.committed < before then s.reevaluate else s.tryPlacement).examine := by
  refine Evolves.trans ?_ (State.examine_evolves _)
  split
  · exact State.reevaluate_evolves s
  · exact State.tryPlacement_evolves s

theorem State.answer_evolves (s : State) (pos : AlertPos) (a : AlertRecord) (n : LineNo) : Evolves s (s.answer pos a n) := by
  unfold State.answer
  dsimp only
  refine Evolves.trans ?_ (State.reevaluateOrPlace_evolves _ _)
  exact (State.answerFeed_evolves s pos n).trans <| (State.hold_evolves _ n a.bearer).trans <|
    (State.modLine_evolves _ n _ (fun _ => by rfl) fun _ => by exact id).trans <|
      (State.addLineEvent_evolves _ n .answered).trans
    (State.returnMembers_evolves _ _)

theorem State.answerTaken_evolves {s t : State} {n : LineNo} {number : Nat} (h : s.answerTaken n number = some t) :
    Evolves s t := by
  unfold State.answerTaken at h
  split at h
  · exact absurd h (by simp)
  · split at h
    · exact absurd h (by simp)
    · split at h
      · exact Option.some.inj h ▸ State.answer_evolves s _ _ n
      · exact absurd h (by simp)

theorem State.takeOff_evolves (s : State) (n : LineNo) : Evolves s (s.takeOff n) := by
  unfold State.takeOff
  split
  · exact State.originate_evolves s n
  · split
    · exact .refl s
    · split
      · exact .refl s
      · exact State.answerTaken_evolves ‹_›
  all_goals exact .refl s

theorem State.takeAnswer_evolves (s : State) (n : LineNo) (number : Nat) : Evolves s (s.takeAnswer n number) := by
  unfold State.takeAnswer
  split
  · exact State.takeOff_evolves s n
  · exact State.answerTaken_evolves ‹_›

theorem State.misdial_evolves (s : State) (n : LineNo) : Evolves s (s.misdial n) :=
  (State.leaveDial_evolves s n).trans (State.toClearing_evolves _ n _ _)

theorem State.flushQueue_evolves (s : State) : Evolves s s.flushQueue :=
  Evolves.trans (t := { s with pool := { s.pool with queue := [] } })
    (Calm.evolves { Calm.refl _ with pool := fun _ => .inl rfl })
    (.foldl (fun t (e : LineNo × QueueClass) => State.toClearing_evolves t e.1 _ _) _ _)

theorem State.endHowler_evolves (s : State) (n : LineNo) : Evolves s (s.endHowler n) :=
  (State.stopTimer_evolves s n).trans (State.setTone_evolves _ n none)

/-! ### Digits and completion -/

theorem State.completeNumber_evolves (s : State) (n : LineNo) : Evolves s (s.completeNumber n) := by
  unfold State.completeNumber
  dsimp only
  refine (State.leaveDial_evolves s n).trans ((State.setTone_evolves _ n none).trans ?_)
  split
  · exact State.toClearing_evolves _ n _ _
  · split
    · exact State.toClearing_evolves _ n _ _
    · exact State.supply_evolves _ n _

theorem State.complete_evolves (s : State) (n : LineNo) : Evolves s (s.complete n) :=
  State.accounted_evolves s (State.completeNumber_evolves s n)

theorem State.bar_evolves (s : State) (n : LineNo) : Evolves s (s.bar n) :=
  (State.leaveDial_evolves s n).trans (State.toClearing_evolves _ n _ _)

theorem State.recordDigit_evolves (s : State) (n : LineNo) (d : Digit) : Evolves s (s.recordDigit n d) := by
  unfold State.recordDigit
  dsimp only
  refine (State.modLine_evolves s n (fun r => { r with digits := r.digits ++ [d] }) (fun _ => rfl) fun _ => id).trans ?_
  refine Evolves.trans ?_ ((State.startTimer_evolves _ n _ _).trans
    (State.modLine_evolves _ n _ (fun _ => by rfl) fun _ => by exact id))
  split
  · exact State.setTone_evolves _ n none
  · exact .refl _

theorem State.checkNumber_evolves (s : State) (n : LineNo) : Evolves s (s.checkNumber n) := by
  unfold State.checkNumber
  dsimp only
  split
  · exact State.complete_evolves s n
  · split
    · exact .refl s
    · split
      · exact State.bar_evolves s n
      · split
        · exact State.complete_evolves s n
        · exact .refl s

theorem State.appendDigit_evolves (s : State) (n : LineNo) (d : Digit) : Evolves s (s.appendDigit n d) :=
  (State.recordDigit_evolves s n d).trans (State.checkNumber_evolves _ n)

theorem State.hashKey_evolves (s : State) (n : LineNo) : Evolves s (s.hashKey n) := by
  unfold State.hashKey
  split
  · exact State.misdial_evolves s n
  · exact State.complete_evolves s n

theorem State.takeKey_evolves (s : State) (r : ReceiverNo) (k : Key) : Evolves s (s.takeKey r k) := by
  unfold State.takeKey
  split
  · exact .refl s
  · split
    · split
      · exact State.appendDigit_evolves s _ _
      · exact State.hashKey_evolves s _
    · exact .refl s

theorem State.closeTrain_evolves (s : State) (n : LineNo) : Evolves s (s.closeTrain n) := by
  unfold State.closeTrain
  dsimp only
  refine (State.dropTrain_evolves s n).trans ?_
  split
  · split
    · exact State.appendDigit_evolves _ n _
    · exact State.misdial_evolves _ n
  · exact .refl _

end Sys2Proof.Machine

namespace Sys2Proof.Machine

open Sys2Proof.Slice0

/-! ### The mode and the scanner -/

theorem State.startSupervision_evolves (s : State) : Evolves s s.startSupervision :=
  Calm.evolves { Calm.refl _ with }

theorem State.resumeSupervision_evolves (s : State) (c : WakeCause) : Evolves s (s.resumeSupervision c) := by
  unfold State.resumeSupervision
  split
  · exact State.startSupervision_evolves s
  · exact .refl s

/-- R152: a Highway Monitor that resumes starts the grace timer in HIT only, and no restore timer. -/
theorem Highway.resume_timersAgree {s t : State} {now : Nat} (ht : t.highway = s.highway.resume now)
    (h : Safety.highwayTimersAgree s) : Safety.highwayTimersAgree t := by
  obtain ⟨hgrace, hrestore⟩ := h
  unfold Safety.highwayTimersAgree
  rw [ht, Highway.resume]
  cases hstate : s.highway.state <;> simp_all

theorem State.wake_evolves (s : State) (c : WakeCause) : Evolves s (s.wake c) := by
  unfold State.wake
  dsimp only
  refine Evolves.trans ?_ <| (State.resumeSupervision_evolves _ c).trans <| (State.addPartEvent_evolves _ _).trans <|
    (State.reevaluate_evolves _).trans (State.examine_evolves _)
  exact Calm.evolves { Calm.refl _ with
    clock := fun _ => (by decide : 0 < Config.ringCycleMs)
    highway := Highway.resume_timersAgree rfl }

theorem State.wakeIfConserving_evolves (s : State) (c : WakeCause) : Evolves s (s.wakeIfConserving c) := by
  unfold State.wakeIfConserving
  split
  · exact State.wake_evolves s c
  · exact .refl s

theorem State.enterConserve_evolves (s : State) (limit : Nat) : Evolves s (s.enterConserve limit) := by
  unfold State.enterConserve
  dsimp only
  refine Evolves.trans ?_ (State.settle_evolves _ _)
  exact Calm.evolves { Calm.refl _ with highway := fun _ => ⟨fun h => absurd rfl h, fun h => absurd rfl h⟩ }

theorem State.gapPoint_evolves (s : State) (n : LineNo) : Evolves s (s.gapPoint n) := by
  unfold State.gapPoint
  split
  · exact .refl s
  · exact State.closeTrain_evolves s n

theorem State.releasePoint_evolves (s : State) (n : LineNo) : Evolves s (s.releasePoint n) := by
  unfold State.releasePoint
  split
  · exact .refl s
  · split
    · split
      · exact .refl s
      · exact State.release_evolves s n
    · exact State.modScan_evolves s n _ fun _ h => h

theorem State.runFails_evolves (s : State) (n : LineNo) : Evolves s (s.runFails n) := by
  have hended : Evolves s ((s.setLoop n (s.scan n).hook).modScan n fun r => { r with runCount := 0, runStart := none }) :=
    (State.setLoop_evolves s n _).trans (State.modScan_evolves _ n _ fun _ h => ⟨h.1, Nat.zero_le _⟩)
  unfold State.runFails
  dsimp only
  split
  · split
    · exact hended.trans (State.release_evolves _ n)
    · exact hended
  · split
    · exact hended.trans (State.closeTrain_evolves _ n)
    · exact hended

theorem State.takeHanded_evolves (s : State) (h : Handed) : Evolves s (s.takeHanded h) := by
  unfold State.takeHanded
  split
  · exact (State.unhand_evolves s _).trans (State.takeAnswer_evolves _ _ _)
  · exact (State.unhand_evolves s _).trans ((State.wakeIfConserving_evolves _ _).trans (State.takeOff_evolves _ _))

theorem State.takeHandedOf_evolves (s : State) (n : LineNo) : Evolves s (s.takeHandedOf n) :=
  .foldl State.takeHanded_evolves _ s

theorem State.onTransition_evolves (s : State) (n : LineNo) : Evolves s (s.onTransition n) := by
  unfold State.onTransition
  split
  · exact .refl s
  · dsimp only
    refine Evolves.trans ?_ (State.modScan_evolves _ n _ fun _ h => ⟨h.1, Nat.zero_le _⟩)
    refine (State.takeHandedOf_evolves s n).trans ((State.setLoop_evolves _ n .on).trans ?_)
    split
    · exact State.closeTrain_evolves _ n
    · exact .refl _

theorem State.breakInDial_evolves (s : State) (n : LineNo) (t b : Nat) : Evolves s (s.breakInDial n t b) := by
  unfold State.breakInDial
  split
  · split
    · exact State.closeTrain_evolves s n
    · exact .refl s
  · split
    · exact State.modScan_evolves s n _ fun _ h => ⟨Nat.min_le_left _ _, h.2⟩
    · exact (State.dropTrain_evolves s n).trans (State.misdial_evolves _ n)

theorem State.breakInConnected_evolves (s : State) (n : LineNo) (b : Nat) : Evolves s (s.breakInConnected n b) := by
  unfold State.breakInConnected
  split
  · exact State.flash_evolves s n
  · exact .refl s

theorem State.classifyOff_evolves (s : State) (n : LineNo) (t b : Nat) : Evolves s (s.classifyOff n t b) := by
  unfold State.classifyOff
  split
  case h_1 | h_2 => exact State.takeOff_evolves s n
  case h_3 => exact State.breakInDial_evolves s n t b
  case h_4 => exact State.breakInConnected_evolves s n b
  all_goals exact .refl s

theorem State.releaseLongBreak_evolves (s : State) (n : LineNo) (b : Nat) : Evolves s (s.releaseLongBreak n b) := by
  unfold State.releaseLongBreak
  split
  · exact State.release_evolves s n
  · exact .refl s

theorem State.recordOff_evolves (s : State) (n : LineNo) (t : Nat) : Evolves s (s.recordOff n t) :=
  (State.setLoop_evolves s n .off).trans (State.modScan_evolves _ n _ fun _ h => ⟨h.1, Nat.zero_le _⟩)

theorem State.offTransition_evolves (s : State) (n : LineNo) : Evolves s (s.offTransition n) := by
  unfold State.offTransition
  split
  · exact .refl s
  · exact (State.wakeIfConserving_evolves s _).trans <| (State.releaseLongBreak_evolves _ n _).trans <|
      (State.recordOff_evolves _ n _).trans (State.classifyOff_evolves _ n _ _)

theorem State.declareOff_evolves (s : State) (n : LineNo) : Evolves s (s.declareOff n) := by
  unfold State.declareOff
  split
  · exact (State.recordOff_evolves s n _).trans (State.hand_evolves _ _)
  · exact State.offTransition_evolves s n

theorem State.debounce_evolves (s : State) (n : LineNo) (h : Hook) : Evolves s (s.debounce n h) := by
  unfold State.debounce
  split
  · exact .refl s
  · split
    · split
      · exact .refl s
      · exact State.runFails_evolves s n
    · split
      · exact State.modScan_evolves s n _ fun _ h => ⟨h.1, (by decide : 1 ≤ 2)⟩
      · split
        · exact State.modScan_evolves s n _ fun _ h => ⟨h.1, le_rfl⟩
        · split
          · exact State.onTransition_evolves s n
          · exact State.declareOff_evolves s n

theorem State.beginInstant_evolves (s : State) : Evolves s s.beginInstant := by
  unfold State.beginInstant
  split
  · exact Calm.evolves { Calm.refl _ with }
  · exact .refl s

theorem State.sample_evolves (s : State) (n : LineNo) (h : Hook) : Evolves s (s.sample n h) := by
  have hshown : Evolves s (s.beginInstant.setLoop n h) :=
    (State.beginInstant_evolves s).trans (State.setLoop_evolves _ n h)
  unfold State.sample
  dsimp only
  split
  · refine hshown.trans (Evolves.trans ?_ (State.debounce_evolves _ n h))
    exact Calm.evolves { Calm.refl _ with }
  · exact hshown

theorem State.energizeLine_evolves (s : State) (n : LineNo) : Evolves s (s.energizeLine n) :=
  (State.modScan_evolves s n _ fun _ _ => ⟨by decide, by decide⟩).trans <|
    (State.modLine_evolves _ n _ (fun _ => by rfl) fun _ => by exact id).trans (State.addLineEvent_evolves _ n _)

theorem State.forgetLine_evolves (s : State) (n : LineNo) : Evolves s (s.forgetLine n) :=
  Calm.evolves { Calm.refl _ with }

theorem State.deenergizeLine_evolves (s : State) (n : LineNo) : Evolves s (s.deenergizeLine n) :=
  (State.forgetLine_evolves s n).trans <| (State.modScan_evolves _ n _ fun _ _ => ⟨by decide, by decide⟩).trans <|
    (State.modLine_evolves _ n _ (fun _ => by rfl) fun _ => by exact id).trans (State.addLineEvent_evolves _ n _)

theorem State.setEnergizeList_evolves (s : State) (l : List LineNo) : Evolves s (s.setEnergizeList l) :=
  Calm.evolves { Calm.refl _ with }

theorem State.joinEnergizeList_evolves (s : State) (n : LineNo) : Evolves s (s.joinEnergizeList n) :=
  Calm.evolves { Calm.refl _ with }

theorem State.energizeGroup_evolves (s : State) : Evolves s s.energizeGroup := by
  refine Evolves.trans ?_ (.foldl State.energizeLine_evolves _ _)
  exact Calm.evolves { Calm.refl _ with }

/-! ### Tones, bursts and the test -/

theorem State.advanceTone_evolves (s : State) (k : ToneKind) : Evolves s (s.advanceTone k) := by
  unfold State.advanceTone
  split
  case h_1 p _ hp _ =>
    refine Calm.evolves { Calm.refl _ with source := fun j => ?_ }
    rw [Tones.source_setSource]
    split <;> simp_all
  case h_2 => exact .refl s

theorem State.storeCadence_evolves (s : State) (e : CadenceNo) (segments : List Nat) :
    Evolves s (s.storeCadence e segments) := by
  refine Calm.evolves { Calm.refl _ with source := fun k => ?_ }
  cases k <;> (simp only [State.storeCadence, Tones.source]; split <;> simp)

/-- A change of the burst alone leaves the alert where it rings. -/
theorem State.modAlert_burst_evolves (s : State) (pos : AlertPos) (f : AlertRecord → Option Burst) :
    Evolves s (s.modAlert pos fun a => { a with burst := f a }) :=
  State.modAlert_evolves s pos _ (fun _ _ => le_rfl) fun _ h => h

theorem State.startBurstAt_evolves (s : State) (p : PhaseNo) (pos : AlertPos) : Evolves s (s.startBurstAt p pos) := by
  unfold State.startBurstAt
  split
  · exact .refl s
  · split
    · exact State.modAlert_burst_evolves s pos _
    · exact .refl s

theorem State.startWindow_evolves (s : State) (p : PhaseNo) : Evolves s (s.startWindow p) := by
  unfold State.startWindow
  split
  · exact .refl s
  · refine Evolves.trans ?_ (.foldl (fun t pos => State.startBurstAt_evolves t p pos) _ _)
    exact Calm.evolves { Calm.refl _ with }

theorem State.advanceBurst_evolves (s : State) (pos : AlertPos) : Evolves s (s.advanceBurst pos) :=
  State.modAlert_burst_evolves s pos _

theorem State.modTest_evolves (s : State) (f : TestContext → TestContext) : Evolves s (s.modTest f) :=
  Calm.evolves { Calm.refl _ with }

theorem State.endTest_evolves (s : State) : Evolves s s.endTest := by
  unfold State.endTest
  split
  case h_1 => exact .refl s
  case h_2 t _ =>
    have hwritten : Evolves s ((({ s with test := none } : State).modBearer t.bearer fun b =>
        b.withResult t.outcome none t).addBearerEvent t.bearer .testEnded) := Calm.evolves { Calm.refl _ with }
    dsimp only
    split
    · exact hwritten.trans (State.enterFree_evolves _ _)
    all_goals exact hwritten.trans (State.modBearer_evolves _ _ _)

/-! ### The highway and the controller -/

theorem State.pulse_evolves (s : State) : Evolves s s.pulse := by
  unfold State.pulse
  split
  · exact .refl s
  · refine Calm.evolves { Calm.refl _ with highway := fun ⟨hgrace, hrestore⟩ => ⟨hgrace, fun h => ?_⟩ }
    dsimp only at h ⊢
    split at h
    · exact And.left ‹_›
    · exact hrestore h

theorem State.loss_evolves (s : State) : Evolves s s.loss := by
  unfold State.loss
  split
  case h_1 => exact .refl s
  case h_2 _ hup =>
    exact Calm.evolves { Calm.refl _ with highway := fun h => ⟨fun _ => rfl, fun hr => absurd hup (h.2 hr)⟩ }
  all_goals exact Calm.evolves { Calm.refl _ with highway := fun h => ⟨h.1, fun hr => absurd rfl hr⟩ }

theorem State.restoreBearer_evolves (s : State) (b : BearerNo) : Evolves s (s.restoreBearer b) := by
  unfold State.restoreBearer
  split
  · exact State.enterFree_evolves s b
  · exact .refl s

theorem State.restoreHighway_evolves (s : State) : Evolves s s.restoreHighway := by
  unfold State.restoreHighway
  split
  case h_1 | h_2 => exact .refl s
  case h_3 => exact Calm.evolves { Calm.refl _ with highway := fun _ => ⟨fun h => absurd rfl h, fun h => absurd rfl h⟩ }
  case h_4 =>
    refine Evolves.trans ?_ (.foldl State.restoreBearer_evolves _ _)
    exact Calm.evolves { Calm.refl _ with highway := fun _ => ⟨fun h => absurd rfl h, fun h => absurd rfl h⟩ }

theorem State.downBearer_evolves (s : State) (b : BearerNo) : Evolves s (s.downBearer b) := by
  unfold State.downBearer
  split
  · exact .refl s
  · exact State.modBearer_evolves s b _

theorem State.downLine_evolves (s : State) (n : LineNo) : Evolves s (s.downLine n) := by
  unfold State.downLine
  split
  · exact State.toClearing_evolves s n _ _
  · exact .refl s

theorem State.downAlert_evolves (s : State) (p : AlertPos) : Evolves s (s.downAlert p) := by
  unfold State.downAlert
  split
  · exact State.endUnanswered_evolves s p _ _ (by simp)
  · exact .refl s

theorem State.setFreeList_nil_evolves (s : State) : Evolves s { s with pool := { s.pool with freeList := [] } } :=
  Calm.evolves { Calm.refl _ with pool := fun _ => .inr rfl }

/-- R149: DOWN stops the grace timer; a restore timer that runs goes on, and does not belong to UP. -/
theorem State.takeDown_evolves (s : State) : Evolves s s.takeDown := by
  unfold State.takeDown
  dsimp only
  refine Evolves.trans (t := ({ s with highway := { s.highway with state := .down, grace := none } } : State).addPartEvent
    .highwayDown) ?_ ?_
  · exact Calm.evolves { Calm.refl _ with highway := fun _ => ⟨fun h => absurd rfl h, fun _ => by simp⟩ }
  refine (State.abortTest_evolves _ .highway).trans <| (Evolves.foldl State.downAlert_evolves allPositions _).trans <|
    (Evolves.foldl State.downLine_evolves allLines _).trans <|
    (Evolves.foldl State.downBearer_evolves allBearers _).trans ?_
  generalize List.foldl State.downBearer _ _ = u
  exact (State.setFreeList_nil_evolves u).trans (State.flushQueue_evolves _)

theorem State.graceExpires_evolves (s : State) : Evolves s s.graceExpires := by
  unfold State.graceExpires
  split
  · exact .refl s
  · exact State.accounted_evolves s (State.takeDown_evolves s)

theorem State.countFrame_evolves (s : State) : Evolves s s.countFrame := by
  unfold State.countFrame
  dsimp only
  refine Evolves.trans ?_ (State.startSupervision_evolves _)
  split
  · exact Calm.evolves { Calm.refl _ with }
  · exact .refl s

theorem State.supervisionExpires_evolves (s : State) : Evolves s s.supervisionExpires := by
  unfold State.supervisionExpires
  split
  · exact .refl s
  · refine Evolves.trans ?_ (State.flushQueue_evolves _)
    exact Calm.evolves { Calm.refl _ with }

end Sys2Proof.Machine

namespace Sys2Proof.Machine

open Sys2Proof.Slice0

/-! ### Requests -/

theorem State.dropRequest_evolves (s : State) : Evolves s s.dropRequest :=
  Calm.evolves { Calm.refl _ with }

theorem State.frameTaken_evolves (s : State) : Evolves s s.frameTaken :=
  Calm.evolves { Calm.refl _ with }

/-- R166: a reply joins the queue only where it finds a place. -/
theorem State.queueReply_upholds {s : State} (f : Frame) (h : s.sli.replies.length < 4) : Upholds s (s.queueReply f) where
  pending := rfl
  phases := id
  tones := id
  ranges := fun ⟨_, hrest⟩ => ⟨by simpa [Safety.repliesFit, State.queueReply, Config.replyPlaces] using h, hrest⟩

theorem State.meetOff_evolves (s : State) (n : LineNo) : Evolves s (s.meetOff n) := by
  have hfresh : Evolves s { s with fresh := s.fresh + 1 } := Calm.evolves { Calm.refl _ with }
  unfold State.meetOff
  exact .ite (hfresh.trans ((State.unhand_evolves _ _).trans (State.originate_evolves _ n))) hfresh

theorem State.frameArrives_evolves (s : State) : Evolves s s.frameArrives := by
  unfold State.frameArrives
  split
  · exact State.countFrame_evolves s
  · exact (State.wake_evolves s _).trans ((State.countFrame_evolves _).trans (.foldl State.meetOff_evolves _ _))

/-- R166: what serving a request upholds, the completion of its frame upholds. -/
theorem State.completeFrame_upholds (s : State) {serve : State → State × Frame} (h : ∀ u, Evolves u (serve u).1) :
    Upholds s (s.completeFrame serve) := by
  unfold State.completeFrame
  dsimp only
  refine (State.frameArrives_evolves s).toUpholds.trans ?_
  split
  · exact (State.dropRequest_evolves _).toUpholds
  · have hroom : s.frameArrives.sli.replies.length < 4 := Nat.not_le.1 ‹_›
    exact (h _).toUpholds.trans (State.queueReply_upholds _ ((h _).replies.trans_lt hroom))

theorem State.takeLines_evolves {one : State → LineNo → State × Nat} (h : ∀ s n, Evolves s (one s n).1)
    (l : List LineNo) (s : State) : Evolves s (s.takeLines one l).1 := by
  induction l generalizing s with
  | nil => exact .refl s
  | cons n l ih => exact (h s n).trans (ih _)

theorem State.serveLines_evolves {one : State → LineNo → State × Nat} (h : ∀ s n, Evolves s (one s n).1) (type : Octet)
    (lines : List Nat) (s : State) : Evolves s (s.serveLines type one lines).1 := by
  unfold State.serveLines
  split
  · exact .refl s
  · split
    · exact .refl s
    · exact State.takeLines_evolves h _ s

theorem State.energizeOne_evolves (s : State) (n : LineNo) : Evolves s (s.energizeOne n).1 := by
  unfold State.energizeOne
  split
  · exact .refl s
  · split
    · exact .refl s
    · exact State.joinEnergizeList_evolves s n

theorem State.deenergizeOne_evolves (s : State) (n : LineNo) : Evolves s (s.deenergizeOne n).1 := by
  unfold State.deenergizeOne
  split
  case h_1 =>
    split
    · exact .refl s
    · exact State.deenergizeLine_evolves s n
  case h_2 =>
    split
    · exact State.setEnergizeList_evolves s _
    · exact .refl s
  all_goals exact .refl s

theorem State.serveLineConfig_evolves (line signalling load group ceiling restricted : Nat) (s : State) :
    Evolves s (s.serveLineConfig line signalling load group ceiling restricted).1 := by
  unfold State.serveLineConfig
  split
  · exact .refl s
  · split
    · exact .refl s
    · split
      · exact State.modLine_evolves s _ (fun r => r.configured _) (fun _ => rfl) fun _ => id
      · exact .refl s

theorem State.endHeld_evolves {s t : State} {n : LineNo} (h : s.endHeld n = some t) : Evolves s t := by
  unfold State.endHeld at h
  split at h
  case h_1 => exact Option.some.inj h ▸ State.leaveDial_evolves s n
  case h_2 => exact Option.some.inj h ▸ State.leaveQueue_evolves s n
  case h_3 => exact Option.some.inj h ▸ State.handBack_evolves s n
  all_goals exact absurd h (by simp)

theorem State.serveClear_evolves (line tone : Nat) (s : State) : Evolves s (s.serveClear line tone).1 := by
  unfold State.serveClear
  split
  · exact .refl s
  · split
    · exact .refl s
    · split
      · exact .refl s
      · exact (State.endHeld_evolves ‹_›).trans (State.toClearing_evolves _ _ _ _)

theorem State.joinAccepted_evolves (s : State) (pos : AlertPos) :
    Evolves s { s with ring := { s.ring with accepted := s.ring.accepted ++ [pos] } } :=
  Calm.evolves { Calm.refl _ with }

theorem State.alertMember_evolves (number : Nat) (s : State) (n : LineNo) : Evolves s (s.alertMember number n) :=
  State.modLine_evolves s n _ (fun _ => by rfl) fun _ => by exact id

/-- R92: the record of an accepted alert is QUEUED, so no phase takes load before the placement try. -/
theorem State.acceptAlert_evolves (s : State) (pos : AlertPos) {a : AlertRecord} (ha : a.state = .queued) :
    Evolves s (s.acceptAlert pos a) := by
  have hwritten : Evolves s (s.setAlert pos (some a)) := State.setAlert_evolves s pos _
    (fun p => (alertLoad_of_not_placed (by simp [ha])).trans_le (Nat.zero_le _)) fun h => by simp [inState, ha] at h
  unfold State.acceptAlert
  dsimp only
  refine hwritten.trans ?_
  generalize s.setAlert pos (some a) = u
  refine (State.modBearer_evolves u a.bearer fun r =>
    { r with state := .reserved, downReason := none, holder := some (.alert a.number) }).trans ?_
  refine (Evolves.foldl (State.alertMember_evolves a.number) a.members _).trans ?_
  generalize a.members.foldl (State.alertMember a.number) _ = v
  exact (State.joinAccepted_evolves v pos).trans ((State.tryPlacement_evolves _).trans (State.examine_evolves _))

theorem State.offerAlert_evolves (s : State) (pos : AlertPos) (number : Nat) (target : Option Target)
    (cadence : CadenceNo) (timeout : Nat) : Evolves s (s.offerAlert pos number target cadence timeout).1 := by
  unfold State.offerAlert
  split
  · exact .refl s
  split
  · exact .refl s
  split
  · exact .refl s
  split
  · exact .refl s
  split
  · exact .refl s
  · exact (State.bearerForAlert_evolves ‹_›).trans (State.acceptAlert_evolves _ _ rfl)

theorem State.serveAlert_evolves (number kind target cadence timeout : Nat) (s : State) :
    Evolves s (s.serveAlert number kind target cadence timeout).1 := by
  unfold State.serveAlert
  split
  · exact .refl s
  split
  · exact .refl s
  split
  · exact .refl s
  split
  · exact State.offerAlert_evolves s _ _ _ _ _
  · exact .refl s

theorem State.serveCancelAlert_evolves (number : Nat) (s : State) : Evolves s (s.serveCancelAlert number).1 := by
  unfold State.serveCancelAlert
  split
  case h_1 => exact .refl s
  case h_2 pos _ =>
    split
    · exact .refl s
    split
    · exact State.accounted_evolves s (f := fun t => t.endReturning pos .cancelled)
        (State.endReturning_evolves s pos .cancelled (by simp))
    · exact .refl s

theorem State.blockNow_evolves (s : State) (b : BearerNo) : Evolves s (s.blockNow b) :=
  (State.modBearer_evolves s b _).trans (State.addBearerEvent_evolves _ b _)

theorem State.leaveFreeList_evolves (s : State) (b : BearerNo) : Evolves s (s.leaveFreeList b) :=
  Calm.evolves { Calm.refl _ with pool := fun h => h.imp_right fun hfree => by simp [State.leaveFreeList, hfree] }

theorem State.blockBearer_evolves (s : State) (b : BearerNo) : Evolves s (s.blockBearer b) := by
  unfold State.blockBearer
  split
  case h_1 => exact (State.leaveFreeList_evolves s b).trans (State.blockNow_evolves _ b)
  case h_4 => exact (State.abortTest_evolves s _).trans (State.blockNow_evolves _ b)
  case h_5 => exact .refl s
  case h_6 => exact State.blockNow_evolves s b
  all_goals exact State.modBearer_evolves s b _

theorem State.unblockBearer_evolves {s t : State} {b : BearerNo} (h : s.unblockBearer b = some t) : Evolves s t := by
  have hentered : Evolves s ((s.addBearerEvent b .unblocked).enterFree b) :=
    (State.addBearerEvent_evolves s b _).trans (State.enterFree_evolves _ b)
  unfold State.unblockBearer at h
  split at h
  case h_1 =>
    split at h
    · exact Option.some.inj h ▸ (State.modBearer_evolves s b _).trans (State.addBearerEvent_evolves _ b _)
    · exact Option.some.inj h ▸ hentered
  case h_2 => exact Option.some.inj h ▸ hentered
  case h_3 | h_4 | h_5 =>
    split at h
    · exact Option.some.inj h ▸ State.modBearer_evolves s b _
    · exact absurd h (by simp)
  all_goals exact absurd h (by simp)

theorem State.serveUnblockBearer_evolves (bearer : Nat) (s : State) : Evolves s (s.serveUnblockBearer bearer).1 := by
  unfold State.serveUnblockBearer
  split
  · exact .refl s
  · split
    · exact .refl s
    · exact State.unblockBearer_evolves ‹_›

theorem State.startTest_evolves (s : State) (t : TestContext) : Evolves s (s.startTest t) := by
  refine (State.leaveFreeList_evolves s t.bearer).trans ((State.modBearer_evolves _ t.bearer fun r =>
    { r with state := .testing, downReason := none, holder := none }).trans ?_)
  exact Calm.evolves { Calm.refl _ with }

theorem State.serveTestBearer_evolves (bearer duration threshold inject yields : Nat) (s : State) :
    Evolves s (s.serveTestBearer bearer duration threshold inject yields).1 := by
  unfold State.serveTestBearer
  split
  · exact .refl s
  dsimp only
  split
  · split
    · exact .refl s
    split
    · exact .refl s
    · exact State.startTest_evolves s _
  · exact .refl s

/-- R99: a capacity in its range keeps the invariants, the phases being brought within a cut in the same action. -/
theorem State.setCapacity_evolves (s : State) {capacity : Nat} (hlow : 1 ≤ capacity) (hhigh : capacity ≤ 12) :
    Evolves s (s.setCapacity capacity) := by
  have hranges : rangesKept s → rangesKept { s with ring := { s.ring with capacity := capacity } } :=
    fun ⟨hreplies, hpool, ⟨hclock, _, _, hbudget⟩, hrest⟩ => ⟨hreplies, hpool, ⟨hclock, hlow, hhigh, hbudget⟩, hrest⟩
  unfold State.setCapacity
  dsimp only
  split
  · have hfit := State.fitPhases_evolves { s with ring := { s.ring with capacity := capacity } }
    exact
      { pending := hfit.pending
        ranges := hfit.ranges ∘ hranges
        tones := hfit.tones
        replies := hfit.replies
        phases := fun h => State.phasesFit_fitPhases ((phasesFit_iff s).1 h).2 }
  · exact
      { pending := rfl
        ranges := hranges
        tones := id
        replies := le_rfl
        phases := fun ⟨hload, hplaced⟩ => ⟨fun p => (hload p).trans (Nat.not_lt.1 ‹_›), hplaced⟩ }

theorem State.setBudget_evolves (s : State) {budget : Nat} (h : budget ≤ 600) : Evolves s (s.setBudget budget) := by
  have hset : Evolves s { s with power := { s.power with budget := budget } } :=
    Calm.evolves { Calm.refl _ with budget := fun _ => h }
  unfold State.setBudget
  exact .ite (hset.trans (State.shed_evolves _)) hset

theorem State.setPower_evolves (s : State) {budget capacity : Nat} (hbudget : budget ≤ 600) (hlow : 1 ≤ capacity)
    (hhigh : capacity ≤ 12) : Evolves s (s.setPower budget capacity) := by
  have hset := (State.setCapacity_evolves s hlow hhigh).trans (State.setBudget_evolves _ hbudget)
  unfold State.setPower
  dsimp only
  refine Evolves.trans ?_ (State.examine_evolves _)
  exact .ite (hset.trans (State.reevaluate_evolves _)) (.ite (hset.trans (State.tryPlacement_evolves _)) hset)

theorem State.setPeriods_evolves (s : State) (p : Periods) : Evolves s (s.setPeriods p) := by
  have hset : Evolves s { s with periods := p } := Calm.evolves { Calm.refl _ with }
  unfold State.setPeriods
  exact .ite (hset.trans (State.startSupervision_evolves _)) hset

theorem State.serveLoadPlan_evolves (count : Nat) (entries : List PlanRow) (s : State) :
    Evolves s (s.serveLoadPlan count entries).1 := by
  unfold State.serveLoadPlan
  split
  · exact .refl s
  · exact Calm.evolves { Calm.refl _ with }

theorem State.serveLoadCadence_evolves (entry : Nat) (durations : List Nat) (s : State) :
    Evolves s (s.serveLoadCadence entry durations).1 := by
  unfold State.serveLoadCadence
  split
  · exact .refl s
  · split
    · exact .refl s
    · exact State.storeCadence_evolves s _ _

theorem State.serveConserve_evolves (limit : Nat) (s : State) : Evolves s (s.serveConserve limit).1 := by
  unfold State.serveConserve
  split
  · exact State.enterConserve_evolves s limit
  · exact .refl s

/-! ### Power-on and RESTART -/

/-- A part with no alert holds no ringing load. -/
theorem phasesFit_of_no_alerts {s : State} (h : ∀ p, s.alertAt p = none) : phasesFit s :=
  ⟨fun p => by simp [State.phaseLoad, h, alertLoad], fun pos a ha => by simp [h] at ha⟩

/-- A part that no line hears a tone of has its sources IDLE. -/
theorem sourcesRunWhileHeard_of_silent {s : State} (hline : ∀ n, (s.line n).tone = none)
    (hsource : ∀ k, s.tones.source k = none) : sourcesRunWhileHeard s :=
  fun k => by simp [hline, hsource]

@[simp] theorem State.line_restart (s : State) (n : LineNo) : s.restart.line n = (s.line n).restarted := by
  simp [State.restart, State.line]

@[simp] theorem State.bearer_restart (s : State) (b : BearerNo) : s.restart.bearer b = (s.bearer b).restarted := by
  simp [State.restart, State.bearer, Pool.restarted]

@[simp] theorem State.scan_restart (s : State) (n : LineNo) : s.restart.scan n = ScanRecord.initial := by
  simp [State.restart, State.scan, Scanner.started]

@[simp] theorem State.alertAt_restart (s : State) (p : AlertPos) : s.restart.alertAt p = none := by
  simp [State.restart, State.alertAt, Ring.restarted, Ring.initial]

@[simp] theorem Tones.source_restarted (t : Tones) (k : ToneKind) : t.restarted.source k = none := by
  cases k <;> rfl

/-- R171: RESTART keeps the capacity and the budget, which were in range, and puts everything else at its start. -/
theorem State.restart_evolves (s : State) : Evolves s s.restart where
  pending := rfl
  replies := Nat.zero_le _
  phases := fun _ => phasesFit_of_no_alerts s.alertAt_restart
  tones := fun _ => sourcesRunWhileHeard_of_silent (fun n => by rw [State.line_restart]; rfl) s.tones.source_restarted
  ranges := by
    rintro ⟨_, _, ⟨_, hlow, hhigh, hbudget⟩, _⟩
    refine ⟨Nat.zero_le _, .inl rfl, ⟨(by decide : 0 < Config.ringCycleMs), hlow, hhigh, hbudget⟩,
      ⟨fun h => absurd rfl h, fun h => absurd rfl h⟩, fun n => ?_, fun n => ?_⟩
    · rw [State.line_restart]
      exact Nat.zero_le _
    · rw [State.scan_restart]
      decide

@[simp] theorem State.line_atPowerOn (p : Straps) (n : LineNo) : (State.atPowerOn p).line n = LineRecord.initial := by
  simp [State.atPowerOn, State.line]

@[simp] theorem State.bearer_atPowerOn (p : Straps) (b : BearerNo) :
    (State.atPowerOn p).bearer b = BearerRecord.initial := by
  simp [State.atPowerOn, State.bearer, Pool.initial]

@[simp] theorem State.scan_atPowerOn (p : Straps) (n : LineNo) : (State.atPowerOn p).scan n = ScanRecord.initial := by
  simp [State.atPowerOn, State.scan, Scanner.started]

@[simp] theorem State.alertAt_atPowerOn (p : Straps) (q : AlertPos) : (State.atPowerOn p).alertAt q = none := by
  simp [State.atPowerOn, State.alertAt, Ring.initial]

@[simp] theorem State.receiverLine_atPowerOn (p : Straps) (r : ReceiverNo) : (State.atPowerOn p).receiverLine r = none := by
  simp [State.atPowerOn, State.receiverLine, Collector.initial]

@[simp] theorem Tones.source_initial (k : ToneKind) : Tones.initial.source k = none := by
  cases k <;> rfl

theorem State.phasesFit_atPowerOn (p : Straps) : phasesFit (State.atPowerOn p) :=
  phasesFit_of_no_alerts (State.alertAt_atPowerOn p)

theorem State.sourcesRunWhileHeard_atPowerOn (p : Straps) : sourcesRunWhileHeard (State.atPowerOn p) :=
  sourcesRunWhileHeard_of_silent (fun n => by rw [State.line_atPowerOn]; rfl) Tones.source_initial

theorem State.rangesKept_atPowerOn (p : Straps) : rangesKept (State.atPowerOn p) := by
  refine ⟨Nat.zero_le _, .inl rfl, (by decide : 0 < 6000 ∧ 1 ≤ 6 ∧ 6 ≤ 12 ∧ 80 ≤ 600),
    ⟨fun h => absurd rfl h, fun h => absurd rfl h⟩, fun n => ?_, fun n => ?_⟩
  · rw [State.line_atPowerOn]
    exact Nat.zero_le _
  · rw [State.scan_atPowerOn]
    decide

end Sys2Proof.Machine

namespace Sys2Proof.Machine

open Sys2Proof.Slice0

/-! ### Frames, received and sent -/

theorem clampBudget_le (v : Nat) : clampBudget v ≤ 600 := by
  unfold clampBudget clampTo
  omega

theorem clampCapacity_bounds (v : Nat) : 1 ≤ clampCapacity v ∧ clampCapacity v ≤ 12 := by
  unfold clampCapacity clampTo
  omega

theorem State.serveBlockBearer_evolves (bearer : Nat) (s : State) : Evolves s (s.serveBlockBearer bearer).1 := by
  unfold State.serveBlockBearer
  split
  · exact .refl s
  · exact State.blockBearer_evolves s _

theorem State.serveLineQuery_evolves (line : Nat) (s : State) : Evolves s (s.serveLineQuery line).1 := by
  unfold State.serveLineQuery
  split
  · exact .refl s
  · exact .refl s

theorem State.serveBearerQuery_evolves (bearer : Nat) (s : State) : Evolves s (s.serveBearerQuery bearer).1 := by
  unfold State.serveBearerQuery
  split
  · exact .refl s
  · exact .refl s

/-- R166, step 3: whatever block a request is for, it upholds the invariants as it acts. -/
theorem Request.serve_evolves (r : Request) (s : State) : Evolves s (Request.serve r s).1 := by
  cases r with
  | partQuery => exact .refl s
  | lineQuery line => exact State.serveLineQuery_evolves line s
  | bearerQuery bearer => exact State.serveBearerQuery_evolves bearer s
  | lineConfig a b c d e f => exact State.serveLineConfig_evolves a b c d e f s
  | energize lines => exact State.serveLines_evolves State.energizeOne_evolves _ lines s
  | deenergize lines => exact State.serveLines_evolves State.deenergizeOne_evolves _ lines s
  | clear line tone => exact State.serveClear_evolves line tone s
  | alert number kind target cadence timeout => exact State.serveAlert_evolves number kind target cadence timeout s
  | cancelAlert number => exact State.serveCancelAlert_evolves number s
  | blockBearer bearer => exact State.serveBlockBearer_evolves bearer s
  | unblockBearer bearer => exact State.serveUnblockBearer_evolves bearer s
  | testBearer a b c d e => exact State.serveTestBearer_evolves a b c d e s
  | setPower budget capacity =>
    exact State.setPower_evolves s (clampBudget_le _) (clampCapacity_bounds _).1 (clampCapacity_bounds _).2
  | setTimers a b c d e f => exact State.setPeriods_evolves s _
  | loadPlan count entries => exact State.serveLoadPlan_evolves count entries s
  | loadCadence entry durations => exact State.serveLoadCadence_evolves entry durations s
  | conserve limit => exact State.serveConserve_evolves limit s
  | restart => exact State.restart_evolves s
  | unknown type => exact .refl s

theorem State.takeFrame_upholds (s : State) (f : Frame) : Upholds s (s.takeFrame f) :=
  State.completeFrame_upholds s (Request.serve_evolves f.request)

theorem State.takeOctets_upholds (s : State) (h : Hunter) (octets : List Octet) : Upholds s (s.takeOctets h octets) := by
  have hstands : Evolves s { s with sli := { s.sli with hunter := (h.hunt octets).1, lastOctet := s.now } } :=
    Calm.evolves { Calm.refl _ with }
  exact hstands.toUpholds.trans (.foldl State.takeFrame_upholds _ _)

theorem State.send_evolves (s : State) (f : Frame) : Evolves s (s.send f) :=
  Calm.evolves { Calm.refl _ with }

theorem State.beginReply_evolves (s : State) : Evolves s s.beginReply := by
  unfold State.beginReply
  split
  case h_1 => exact .refl s
  case h_2 f rest hreplies =>
    refine Evolves.trans (t := { s with sli := { s.sli with replies := rest } }) ?_ (State.send_evolves _ f)
    exact Calm.evolves { Calm.refl _ with replies := by simp [hreplies] }

theorem State.beginPartReport_evolves (s : State) : Evolves s s.beginPartReport := by
  refine Evolves.trans (t := { s with sli := { s.sli with events := [], overrun := false } }) ?_ (State.send_evolves _ _)
  exact Calm.evolves { Calm.refl _ with }

theorem State.freeAlert_evolves (s : State) (p : AlertPos) : Evolves s (s.freeAlert p) :=
  Calm.evolves
    { Calm.refl _ with
      load := fun k q => by
        show alertLoad k ((s.setAlert p none).alertAt q) ≤ _
        rw [State.alertAt_setAlert]
        split
        · exact Nat.zero_le _
        · exact le_rfl
      placed := fun q hq => by
        change inState .placed ((s.setAlert p none).alertAt q) = true at hq
        rw [State.alertAt_setAlert] at hq
        split at hq
        · simp [inState] at hq
        · exact ⟨hq, id⟩ }

theorem State.beginAlertReport_evolves (s : State) (p : AlertPos) : Evolves s (s.beginAlertReport p) := by
  unfold State.beginAlertReport
  split
  case h_1 => exact .refl s
  case h_2 a ha =>
    refine Evolves.trans ?_ (State.send_evolves _ _)
    split
    · exact State.setAlert_evolves s p _ (fun k => by rw [ha]; exact le_rfl) fun hp => by rw [ha]; exact hp
    · exact State.freeAlert_evolves s p

theorem State.beginBearerReport_evolves (s : State) (b : BearerNo) : Evolves s (s.beginBearerReport b) :=
  (State.modBearer_evolves s b fun r => { r with events := [] }).trans (State.send_evolves _ _)

theorem State.beginLineReport_evolves (s : State) (n : LineNo) : Evolves s (s.beginLineReport n) := by
  refine (State.modLine_evolves s n (fun r => { r with events := [], flashCount := 0 }) (fun _ => rfl)
    fun _ _ => Nat.zero_le _).trans ?_
  refine Evolves.trans ?_ (State.send_evolves _ _)
  exact Calm.evolves { Calm.refl _ with }

theorem State.begin_evolves (s : State) (c : Option Choice) : Evolves s (s.begin c) := by
  unfold State.begin
  split
  · exact .refl s
  · exact State.beginReply_evolves s
  · exact State.beginPartReport_evolves s
  · exact State.beginAlertReport_evolves s _
  · exact State.beginBearerReport_evolves s _
  · exact State.beginLineReport_evolves s _

theorem State.endFrame_evolves (s : State) : Evolves s s.endFrame := by
  unfold State.endFrame
  split
  · exact .refl s
  · refine Evolves.trans (t := { s with sli := { s.sli with sending := none } }) ?_ (State.begin_evolves _ _)
    exact Calm.evolves { Calm.refl _ with }

/-! ### One millisecond -/

theorem State.tickTest_evolves (s : State) : Evolves s s.tickTest := by
  unfold State.tickTest
  split
  · exact .refl s
  · exact Calm.evolves { Calm.refl _ with }

/-- R93: the ring cycle clock wraps below 6000. -/
theorem State.tick_evolves (s : State) : Evolves s s.tick := by
  refine Evolves.trans (t := { s with now := s.now + 1, ring := s.ring.tick s.mode.mode }) ?_ (State.tickTest_evolves _)
  unfold Ring.tick
  split
  · exact Calm.evolves { Calm.refl _ with clock := fun _ => Nat.mod_lt _ (by decide) }
  · exact Calm.evolves { Calm.refl _ with }

/-! ### Every command and every step -/

/-- R172: POWER_ON leaves commands that wait as they are, and its columns meet the invariants. -/
theorem State.powerOn_upholds (s : State) (p : Straps) : Upholds s { State.atPowerOn p with pending := s.pending } where
  pending := rfl
  ranges := fun _ => State.rangesKept_atPowerOn p
  phases := fun _ => State.phasesFit_atPowerOn p
  tones := fun _ => State.sourcesRunWhileHeard_atPowerOn p

/-- A command has a next state, and that state keeps what the command found. -/
def Answers (s : State) (o : Host.Outcome State Fault Refusal) : Prop :=
  ∃ t, o = .next t ∧ Upholds s t

theorem Upholds.answers {s t : State} (h : Upholds s t) : Answers s (.next t) :=
  ⟨t, rfl, h⟩

theorem exec_request_answers {c : Instr} {r : Request} (hr : c.request = some r) (s : State) : Answers s (exec c s) := by
  rw [exec_request hr]
  exact ((State.frameTaken_evolves s).toUpholds.trans
    (State.completeFrame_upholds _ (Request.serve_evolves r))).answers

/-- The commands that begin a frame uphold the invariants, whether it is theirs to begin or not (R168). -/
theorem exec_report_answers (s : State) :
    Answers s (exec .alertReport s) ∧ Answers s (exec .bearerReport s) ∧ Answers s (exec .lineReport s) := by
  refine ⟨Upholds.answers ?_, Upholds.answers ?_, Upholds.answers ?_⟩
  · split
    · exact (Evolves.ite (State.beginAlertReport_evolves s _) (.refl s)).toUpholds
    · exact (Evolves.refl s).toUpholds
  · split
    · exact (Evolves.ite (State.beginBearerReport_evolves s _) (.refl s)).toUpholds
    · exact (Evolves.refl s).toUpholds
  · split
    · exact (Evolves.ite (State.beginLineReport_evolves s _) (.refl s)).toUpholds
    · exact (Evolves.refl s).toUpholds

theorem exec_receiveGap_answers (s : State) : Answers s (exec .receiveGap s) := by
  have hgap : Evolves s { s with sli := { s.sli with hunter := .hunting } } := Calm.evolves { Calm.refl _ with }
  exact hgap.toUpholds.answers

theorem exec_answers (c : Instr) (s : State) : Answers s (exec c s) := by
  cases c with
  | powerOn stagger rate unit => exact (State.powerOn_upholds s _).answers
  | frameDiscarded octets => exact (State.takeOctets_upholds s _ _).answers
  | octetReceived octet => exact (State.takeOctets_upholds s _ _).answers
  | alertReport => exact (exec_report_answers s).1
  | bearerReport => exact (exec_report_answers s).2.1
  | lineReport => exact (exec_report_answers s).2.2
  | receiveGap => exact exec_receiveGap_answers s
  | replyTransmit => exact (Evolves.ite (State.beginReply_evolves s) (.refl s)).toUpholds.answers
  | partReport => exact (Evolves.ite (State.beginPartReport_evolves s) (.refl s)).toUpholds.answers
  | frameSent => exact (State.endFrame_evolves s).toUpholds.answers
  | onTransition line => exact (State.onTransition_evolves s line).toUpholds.answers
  | offTransition line => exact (State.offTransition_evolves s line).toUpholds.answers
  | debounceRunFails line => exact (Evolves.ite (.refl s) (State.runFails_evolves s line)).toUpholds.answers
  | releasePointReached line => exact (State.releasePoint_evolves s line).toUpholds.answers
  | gapPointReached line => exact (State.gapPoint_evolves s line).toUpholds.answers
  | groupTimerExpiry => exact (Evolves.ite (.refl s) (State.energizeGroup_evolves s)).toUpholds.answers
  | receiverDigit receiver key => exact (State.takeKey_evolves s receiver key).toUpholds.answers
  | firstDigitTimeout line =>
    exact (Evolves.ite (State.accounted_evolves s (f := fun t => (t.leaveDial line).toLockout line)
      ((State.leaveDial_evolves s line).trans (State.toLockout_evolves _ line))) (.refl s)).toUpholds.answers
  | interdigitTimeout line => exact (Evolves.ite (State.complete_evolves s line) (.refl s)).toUpholds.answers
  | receiverWaitTimeout line =>
    exact (Evolves.ite ((State.leaveDial_evolves s line).trans (State.toClearing_evolves _ line _ _))
      (.refl s)).toUpholds.answers
  | queueWaitTimeout line =>
    exact (Evolves.ite ((State.leaveQueue_evolves s line).trans (State.toClearing_evolves _ line _ _))
      (.refl s)).toUpholds.answers
  | clearingTimeout line =>
    exact (Evolves.ite (State.accounted_evolves s (f := fun t => t.toLockout line) (State.toLockout_evolves s line))
      (.refl s)).toUpholds.answers
  | howlerTimeout line => exact (Evolves.ite (State.endHowler_evolves s line) (.refl s)).toUpholds.answers
  | ringTimeout position =>
    exact (Evolves.ite (State.accounted_evolves s (f := fun t => t.endReturning position .noAnswer)
      (State.endReturning_evolves s position .noAnswer (by simp))) (.refl s)).toUpholds.answers
  | phaseWindowStart phase => exact (State.startWindow_evolves s phase).toUpholds.answers
  | ringSegmentEnd position => exact (State.advanceBurst_evolves s position).toUpholds.answers
  | toneSegmentEnd source => exact (State.advanceTone_evolves s source).toUpholds.answers
  | testDurationExpiry => exact (State.endTest_evolves s).toUpholds.answers
  | testInjection | lock | bitError | lockLost => exact (State.modTest_evolves s _).toUpholds.answers
  | framePulse => exact (State.pulse_evolves s).toUpholds.answers
  | highwayLoss => exact (State.loss_evolves s).toUpholds.answers
  | highwayRestore => exact (State.restoreHighway_evolves s).toUpholds.answers
  | graceTimerExpiry => exact (State.graceExpires_evolves s).toUpholds.answers
  | supervisionTimeout => exact (State.supervisionExpires_evolves s).toUpholds.answers
  | limitTimerExpiry => exact (Evolves.ite (.refl s) (State.wakeIfConserving_evolves s _)).toUpholds.answers
  | sampleInstant line sample => exact (State.sample_evolves s line sample).toUpholds.answers
  | partQuery | lineQuery | bearerQuery | lineConfig | energize | deenergize | clear | alert | cancelAlert | blockBearer
  | unblockBearer | testBearer | setPower | setTimers | loadPlan | loadCadence | conserve | restart | unknownRequest =>
    exact exec_request_answers rfl s

theorem State.takeDue_answers (s : State) (e : DueEvent) : Answers s (s.takeDue e) := by
  cases e with
  | command c => exact exec_answers c s
  | signal h => exact (State.takeHanded_evolves s h).toUpholds.answers

theorem Upholds.answers_trans {s t : State} {o : Host.Outcome State Fault Refusal} (h : Upholds s t) (ho : Answers t o) :
    Answers s o := by
  obtain ⟨u, hu, hkeep⟩ := ho
  exact ⟨u, hu, h.trans hkeep⟩

theorem State.idle_answers (s : State) : Answers s s.idle := by
  refine (State.beginInstant_evolves s).toUpholds.answers_trans ?_
  show Answers s.beginInstant s.beginInstant.idleOn
  unfold State.idleOn
  split
  · have hfresh : Evolves s.beginInstant { s.beginInstant with fresh := s.beginInstant.fresh + 1 } :=
      Calm.evolves { Calm.refl _ with }
    exact hfresh.toUpholds.answers_trans (State.takeDue_answers _ _)
  · exact (State.tick_evolves _).toUpholds.answers

/-- A step upholds the invariants of the state without the command that it takes, and the queue is in none of them. -/
theorem step_keeps {s t : State} (h : step s = .next t) :
    (rangesKept s → rangesKept t) ∧ (phasesFit s → phasesFit t) ∧ (sourcesRunWhileHeard s → sourcesRunWhileHeard t) := by
  have hanswers : ∃ u, Answers u (step s) ∧ (rangesKept s → rangesKept u) ∧ (phasesFit s → phasesFit u) ∧
      (sourcesRunWhileHeard s → sourcesRunWhileHeard u) := by
    unfold step
    split
    case h_1 c rest _ => exact ⟨_, exec_answers c { s with pending := rest }, id, id, id⟩
    case h_2 => exact ⟨s, State.idle_answers s, id, id, id⟩
  obtain ⟨u, ⟨v, hv, hkeep⟩, hranges, hphases, htones⟩ := hanswers
  obtain rfl : v = t := by simpa [hv] using h
  exact ⟨hkeep.ranges ∘ hranges, hkeep.phases ∘ hphases, hkeep.tones ∘ htones⟩

/-- Settles O58: each operation of a command upholds the ranges, so the command does. -/
theorem everyStepKeepsTheRanges : Obligations.EveryStepKeepsTheRanges :=
  fun _ _ hs h => (step_keeps h).1 hs

/-- Settles O59: an alert enters a phase only by the placement try, which looks for room, and a cut of the capacity fits the
phases anew. -/
theorem everyStepKeepsPhasesWithinCapacity : Obligations.EveryStepKeepsPhasesWithinCapacity :=
  fun _ _ hs h => (step_keeps h).2.1 hs

/-- Settles O60: a line's tone changes only as the tone sources follow it. -/
theorem everyStepKeepsToneSourcesWithTheirListeners : Obligations.EveryStepKeepsToneSourcesWithTheirListeners :=
  fun _ _ hs h => (step_keeps h).2.2 hs

/-- Settles O3: every command answers, and no operation of one touches the queue of commands. -/
theorem everyCommandGoesOnAndKeepsTheQueue : Obligations.EveryCommandGoesOnAndKeepsTheQueue := by
  intro c s
  obtain ⟨t, ht, hkeep⟩ := exec_answers c s
  exact ⟨t, ht, hkeep.pending⟩

/-- Settles O57: the state after reset is the power-on column with straps 0. -/
theorem resetIsPowerOnAndMeetsTheInvariants : Obligations.ResetIsPowerOnAndMeetsTheInvariants :=
  ⟨rfl, State.rangesKept_atPowerOn _, State.phasesFit_atPowerOn _, State.sourcesRunWhileHeard_atPowerOn _⟩

end Sys2Proof.Machine

/-! PROOF. Frames on the supervisory line: what an octet does to the hunter, the frame found in a run of octets, and the
request that its frame carries (R164 to R167). -/

namespace Sys2Proof.Machine

open Sys2Proof.Slice0

/-! ### Numbers in octets -/

theorem toNat_octet_of_lt {v : Nat} (h : v < 256) : (octet v).toNat = v := by
  simp [octet, Nat.mod_eq_of_lt h]

theorem map_toNat_octet {l : List Nat} (h : l.all fitsOctet = true) : (l.map octet).map BitVec.toNat = l := by
  rw [List.map_map]
  conv_rhs => rw [← List.map_id l]
  refine List.map_congr_left fun v hv => toNat_octet_of_lt ?_
  exact of_decide_eq_true (List.all_eq_true.1 h v hv)

theorem wide_twoOctets {v : Nat} (h : v < 65536) : wide (octet (v / 256)) (octet v) = v := by
  simp only [wide, octet, BitVec.toNat_ofNat]
  omega

/-! ### Complete octets -/

/-- The octets held after the length make a frame when the check is that of the length, the type and the body. -/
theorem completedFrame_of_check {length : Octet} {f : Frame} (hlength : length.toNat = f.body.length + 1) :
    completedFrame length (f.type :: f.body ++ checkOctets (checkOf (length :: f.type :: f.body))) = some f := by
  have hsplit : length.toNat = (f.type :: f.body).length := hlength
  rw [completedFrame, hsplit, List.take_left, List.drop_left]
  exact if_pos rfl

theorem completedFrame_of_mismatch {length : Octet} {held : List Octet}
    (hcheck : checkOctets (checkOf (length :: held.take length.toNat)) ≠ held.drop length.toNat) :
    completedFrame length held = none := by
  rw [completedFrame]
  split
  · rfl
  · rename_i type body htake
    rw [← htake, if_neg hcheck]

/-! ### One octet -/

/-- The hunter standing at `h` since now (R165). -/
def State.standing (s : State) (h : Hunter) : State :=
  { s with sli := { s.sli with hunter := h, lastOctet := s.now } }

theorem exec_octetReceived (o : Octet) (s : State) : exec (.octetReceived o) s = .next (s.takeOctets s.hunterNow [o]) :=
  rfl

theorem exec_frameDiscarded (octets : List Octet) (s : State) :
    exec (.frameDiscarded octets) s = .next (s.takeOctets .hunting octets) :=
  rfl

theorem Hunter.inFrame_iff (h : Hunter) : h.inFrame = true ↔ h ≠ .hunting := by
  cases h <;> simp [Hunter.inFrame]

theorem State.hunterNow_eq (s : State) :
    s.hunterNow = if s.sli.hunter ≠ .hunting ∧ s.sli.lastOctet + 20 < s.now then .hunting else s.sli.hunter := by
  simp only [State.hunterNow, Hunter.inFrame_iff, Config.octetGapMs]

/-- Octets in which no frame is found leave the hunter where it stands. -/
theorem State.takeOctets_of_no_frame {s : State} {h h' : Hunter} {octets : List Octet} (hunt : h.hunt octets = (h', [])) :
    s.takeOctets h octets = s.standing h' := by
  simp [State.takeOctets, hunt, State.standing]

/-- A frame found at the end of octets is acted on with the hunter HUNTING. -/
theorem State.takeOctets_of_frame {s : State} {h : Hunter} {octets : List Octet} {f : Frame}
    (hunt : h.hunt octets = (.hunting, [f])) : s.takeOctets h octets = (s.standing .hunting).takeFrame f := by
  simp [State.takeOctets, hunt, State.standing]

theorem Hunter.hunt_of_more {h h' : Hunter} {o : Octet} (htake : h.take o = .more h') (rest : List Octet) :
    h.hunt (o :: rest) = h'.hunt rest := by
  rw [Hunter.hunt_cons, htake]

theorem Hunter.hunt_of_complete {h : Hunter} {o length : Octet} {held : List Octet} {f : Frame}
    (htake : h.take o = .complete length held) (hframe : completedFrame length held = some f) :
    h.hunt [o] = (.hunting, [f]) := by
  rw [Hunter.hunt_cons, htake]
  simp [hframe]

theorem Hunter.hunt_of_discarded {h : Hunter} {o length : Octet} {held : List Octet}
    (htake : h.take o = .complete length held) (hframe : completedFrame length held = none) :
    h.hunt [o] = Hunter.hunt .hunting (length :: held) := by
  rw [Hunter.hunt_cons, htake]
  simp [hframe]

@[simp] theorem Hunter.take_hunting_start : Hunter.take .hunting startOctet = .more .awaitLength := by
  simp [Hunter.take]

theorem Hunter.take_hunting_other {o : Octet} (h : o ≠ startOctet) : Hunter.take .hunting o = .more .hunting := by
  simp [Hunter.take, h]

theorem Hunter.take_length_legal {o : Octet} (hlow : 1 ≤ o.toNat) (hhigh : o.toNat ≤ 250) :
    Hunter.take .awaitLength o = .more (.collecting o []) := by
  rw [Hunter.take, if_pos ⟨hlow, hhigh⟩]

theorem Hunter.take_length_illegal {o : Octet} (h : o.toNat = 0 ∨ 251 ≤ o.toNat) :
    Hunter.take .awaitLength o = .more .hunting := by
  rw [Hunter.take, if_neg (by omega)]

theorem Hunter.take_collecting_more {length o : Octet} {held : List Octet} (h : held.length + 1 ≠ length.toNat + 2) :
    Hunter.take (.collecting length held) o = .more (.collecting length (held ++ [o])) := by
  rw [Hunter.take]
  exact if_neg (by simpa using h)

theorem Hunter.take_collecting_last {length o : Octet} {held : List Octet} (h : held.length + 1 = length.toNat + 2) :
    Hunter.take (.collecting length held) o = .complete length (held ++ [o]) := by
  simp [Hunter.take, h]

theorem exec_octetReceived_of_more {s : State} {h h' : Hunter} {o : Octet} (hnow : h = s.hunterNow)
    (htake : h.take o = .more h') : exec (.octetReceived o) s = .next (s.standing h') := by
  rw [exec_octetReceived, ← hnow, State.takeOctets_of_no_frame]
  rw [Hunter.hunt_of_more htake, Hunter.hunt_nil]

theorem length_checkOctets (c : Check) : (checkOctets c).length = 2 :=
  rfl

theorem exec_octetReceived_of_frame {s : State} {length o : Octet} {held : List Octet} {f : Frame}
    (hnow : .collecting length held = s.hunterNow) (hlength : length.toNat = f.body.length + 1)
    (hheld : held ++ [o] = f.type :: f.body ++ checkOctets (checkOf (length :: f.type :: f.body))) :
    exec (.octetReceived o) s = .next ((s.standing .hunting).takeFrame f) := by
  have hlast : held.length + 1 = length.toNat + 2 := by
    simpa [hlength, length_checkOctets] using congrArg List.length hheld
  rw [exec_octetReceived, ← hnow, State.takeOctets_of_frame]
  exact Hunter.hunt_of_complete (Hunter.take_collecting_last hlast) (hheld ▸ completedFrame_of_check hlength)

theorem exec_octetReceived_of_discarded {s : State} {length o : Octet} {held : List Octet}
    (hnow : .collecting length held = s.hunterNow) (hlast : held.length + 1 = length.toNat + 2)
    (hframe : completedFrame length (held ++ [o]) = none) :
    exec (.octetReceived o) s = exec (.frameDiscarded (length :: held ++ [o])) s := by
  have hhunt := Hunter.hunt_of_discarded (Hunter.take_collecting_last (o := o) hlast) hframe
  rw [exec_octetReceived, exec_frameDiscarded, ← hnow, State.takeOctets, State.takeOctets, hhunt]
  rfl

/-- Settles O5: the cases are those of `Hunter.take`, with the completed octets told by their check. -/
theorem hunterTakesOctets : Obligations.HunterTakesOctets := by
  unfold Obligations.HunterTakesOctets
  intro s o stands h hstands
  have hnow : h = s.hunterNow := hstands.trans s.hunterNow_eq.symm
  refine ⟨?_, ?_, ?_, ?_, fun length held hheld => ⟨?_, ?_, ?_⟩⟩
  · rintro hh rfl
    exact exec_octetReceived_of_more hnow (hh ▸ Hunter.take_hunting_start)
  · intro hh ho
    exact exec_octetReceived_of_more hnow (hh ▸ Hunter.take_hunting_other ho)
  · intro hh hlow hhigh
    exact exec_octetReceived_of_more hnow (hh ▸ Hunter.take_length_legal hlow hhigh)
  · intro hh hillegal
    exact exec_octetReceived_of_more hnow (hh ▸ Hunter.take_length_illegal hillegal)
  · intro hmore
    exact exec_octetReceived_of_more hnow (hheld ▸ Hunter.take_collecting_more hmore)
  · intro f hlength hframe
    exact exec_octetReceived_of_frame (hheld ▸ hnow) hlength hframe
  · intro _ hlast hcheck
    exact exec_octetReceived_of_discarded (hheld ▸ hnow) hlast (completedFrame_of_mismatch hcheck)

/-! ### A run of octets -/

/-- Octets with no start octet leave a hunter that is HUNTING so. -/
theorem Hunter.hunt_hunting_append {octets : List Octet} (h : ∀ o ∈ octets, o ≠ startOctet) (rest : List Octet) :
    Hunter.hunt .hunting (octets ++ rest) = Hunter.hunt .hunting rest := by
  induction octets with
  | nil => rfl
  | cons o octets ih =>
    rw [List.cons_append, Hunter.hunt_of_more (Hunter.take_hunting_other (h o List.mem_cons_self))]
    exact ih fun p hp => h p (List.mem_cons_of_mem o hp)

/-- The octets still missing complete the frame. -/
theorem Hunter.hunt_collecting {length : Octet} {f : Frame} (hlength : length.toNat = f.body.length + 1)
    {missing : List Octet} (hmissing : missing ≠ []) {held : List Octet}
    (hheld : held ++ missing = f.type :: f.body ++ checkOctets (checkOf (length :: f.type :: f.body))) :
    Hunter.hunt (.collecting length held) missing = (.hunting, [f]) := by
  induction missing generalizing held with
  | nil => exact absurd rfl hmissing
  | cons o missing ih =>
    have htotal : held.length + (missing.length + 1) = length.toNat + 2 := by
      simpa [hlength, length_checkOctets] using congrArg List.length hheld
    cases missing with
    | nil =>
      exact Hunter.hunt_of_complete (Hunter.take_collecting_last htotal) (hheld ▸ completedFrame_of_check hlength)
    | cons p missing =>
      rw [Hunter.hunt_of_more (Hunter.take_collecting_more (by simp only [List.length_cons] at htotal; omega))]
      exact ih (List.cons_ne_nil p missing) (by simpa using hheld)

theorem toNat_lengthOctet {f : Frame} (h : f.body.length < 250) :
    (octet (f.body.length + 1)).toNat = f.body.length + 1 :=
  toNat_octet_of_lt (by omega)

theorem Hunter.hunt_octets {f : Frame} (h : f.body.length < 250) :
    Hunter.hunt .hunting f.octets = (.hunting, [f]) := by
  have hlength := toNat_lengthOctet h
  rw [Frame.octets, List.cons_append, Hunter.hunt_of_more Hunter.take_hunting_start, Frame.checked, List.cons_append,
    Hunter.hunt_of_more (Hunter.take_length_legal (by omega) (by omega))]
  exact Hunter.hunt_collecting hlength (by simp) rfl

/-- Settles O6: octets without a start octet are passed over, and what follows them is hunted from HUNTING. -/
theorem discardedOctetsAreTakenAgain : Obligations.DiscardedOctetsAreTakenAgain := by
  unfold Obligations.DiscardedOctetsAreTakenAgain
  intro s
  refine ⟨rfl, fun octets hoctets => ⟨?_, ?_, fun f hf => ?_⟩⟩
  · rw [exec_frameDiscarded, State.takeOctets_of_no_frame (h' := .hunting)]
    · rfl
    · simpa using Hunter.hunt_hunting_append hoctets []
  · have hstart : Hunter.hunt .hunting [startOctet] = (.awaitLength, []) :=
      (Hunter.hunt_of_more Hunter.take_hunting_start []).trans (Hunter.hunt_nil _)
    rw [exec_frameDiscarded, State.takeOctets_of_no_frame (h' := .awaitLength)]
    · rfl
    · exact (Hunter.hunt_hunting_append hoctets _).trans hstart
  · rw [exec_frameDiscarded, State.takeOctets_of_frame (f := f)]
    · rfl
    · rw [Hunter.hunt_hunting_append hoctets, Hunter.hunt_octets hf]

/-! ### A request read from its frame -/

theorem planRows_octets {rows : List PlanRow} (h : rows.all PlanRow.wf = true) :
    planRows rows.length (rows.map planRowOctets).flatten = some rows := by
  induction rows with
  | nil => rfl
  | cons e rows ih =>
    rw [List.all_cons, Bool.and_eq_true] at h
    obtain ⟨he, hrows⟩ := h
    simp only [PlanRow.wf, Bool.and_eq_true] at he
    obtain ⟨⟨⟨hcount, hleading⟩, hlength⟩, hcls⟩ := he
    have hn : (octet e.leading.length).toNat = (e.leading.map octet).length := by
      rw [toNat_octet_of_lt (of_decide_eq_true hcount), List.length_map]
    have hlen : ¬ (e.leading.map octet ++ (octet e.length :: octet e.cls :: (rows.map planRowOctets).flatten)).length <
        (octet e.leading.length).toNat + 2 := by
      rw [hn, List.length_append, List.length_cons, List.length_cons]
      omega
    have hsplit : ((e :: rows).map planRowOctets).flatten = octet e.leading.length ::
        (e.leading.map octet ++ (octet e.length :: octet e.cls :: (rows.map planRowOctets).flatten)) := by
      simp [planRowOctets]
    rw [hsplit, List.length_cons, planRows, if_neg hlen, hn, List.drop_left, List.take_left]
    dsimp only
    rw [ih hrows, map_toNat_octet hleading, toNat_octet_of_lt (of_decide_eq_true hlength),
      toNat_octet_of_lt (of_decide_eq_true hcls)]
    rfl

theorem durationsOf_octets {l : List Nat} (h : l.all fitsTwoOctets = true) :
    durationsOf (l.map twoOctets).flatten = some l := by
  induction l with
  | nil => rfl
  | cons d l ih =>
    rw [List.all_cons, Bool.and_eq_true] at h
    obtain ⟨hd, hl⟩ := h
    rw [List.map_cons, List.flatten_cons, twoOctets, List.cons_append, List.cons_append, List.nil_append, durationsOf,
      ih hl, wide_twoOctets (of_decide_eq_true hd)]
    rfl

theorem loadPlanOf_body {count : Nat} {rows : List PlanRow} (hcount : count < 256) (hrows : rows.length = count)
    (h : rows.all PlanRow.wf = true) : loadPlanOf (requestBody (.loadPlan count rows)) = some (.loadPlan count rows) := by
  rw [requestBody, loadPlanOf, toNat_octet_of_lt hcount, ← hrows, planRows_octets h]
  rfl

theorem loadCadenceOf_body {entry : Nat} {durations : List Nat} (hentry : entry < 256)
    (hdurations : durations.all fitsTwoOctets = true) (hlength : durations.length < 256) :
    loadCadenceOf (requestBody (.loadCadence entry durations)) = some (.loadCadence entry durations) := by
  rw [requestBody, loadCadenceOf, durationsOf_octets hdurations]
  simp [toNat_octet_of_lt hlength, toNat_octet_of_lt hentry]

/-- The body of a well-formed request fits one frame (R164). -/
theorem length_requestBody_lt {r : Request} (hwf : r.wf = true) : (requestBody r).length < 250 := by
  cases r with
  | energize lines | deenergize lines | loadPlan count rows | loadCadence entry durations =>
    simp only [Request.wf, fitsFrame, Bool.and_eq_true, decide_eq_true_eq] at hwf
    exact hwf.2
  | _ => simp [requestBody, twoOctets]

theorem length_durations_lt {entry : Nat} {durations : List Nat}
    (h : (requestBody (.loadCadence entry durations)).length < 250) : durations.length < 256 := by
  have hflat : durations.length ≤ (durations.map twoOctets).flatten.length := by
    induction durations with
    | nil => exact le_rfl
    | cons d durations ih =>
      simp only [requestBody, List.map_cons, List.flatten_cons, List.length_cons, List.length_append] at h ih ⊢
      have := ih (by omega)
      simp only [twoOctets, List.length_cons]
      omega
  simp only [requestBody, List.length_cons] at h
  omega

/-- Table 11-6: each type has its own row, whose fields are read back one by one. -/
theorem requestOf_requestBody {r : Request} (hwf : r.wf = true) (hknown : ∀ t, r ≠ .unknown t) :
    requestOf (requestType r).toNat (requestBody r) = some r := by
  have hfits := length_requestBody_lt hwf
  cases r with
  | unknown t => exact absurd rfl (hknown t)
  | energize lines =>
    simp only [Request.wf, Bool.and_eq_true] at hwf
    exact congrArg (some ∘ Request.energize) (map_toNat_octet hwf.1)
  | deenergize lines =>
    simp only [Request.wf, Bool.and_eq_true] at hwf
    exact congrArg (some ∘ Request.deenergize) (map_toNat_octet hwf.1)
  | loadPlan count rows =>
    simp only [Request.wf, Bool.and_eq_true, fitsOctet, decide_eq_true_eq] at hwf
    obtain ⟨⟨⟨hcount, hrows⟩, hall⟩, -⟩ := hwf
    exact loadPlanOf_body hcount hrows hall
  | loadCadence entry durations =>
    simp only [Request.wf, Bool.and_eq_true, fitsOctet, decide_eq_true_eq] at hwf
    obtain ⟨⟨hentry, hdurations⟩, -⟩ := hwf
    exact loadCadenceOf_body hentry hdurations (length_durations_lt hfits)
  | setPower budget capacity =>
    simp only [Request.wf, Bool.and_eq_true, fitsOctet, fitsTwoOctets, decide_eq_true_eq] at hwf
    show some (Request.setPower (wide (octet (budget / 256)) (octet budget)) (octet capacity).toNat) = _
    rw [wide_twoOctets hwf.1, toNat_octet_of_lt hwf.2]
  | conserve limit =>
    simp only [Request.wf, fitsTwoOctets, decide_eq_true_eq] at hwf
    exact congrArg (some ∘ Request.conserve) (wide_twoOctets hwf)
  | partQuery | restart => rfl
  | lineQuery a => exact congrArg (some ∘ Request.lineQuery) (toNat_octet_of_lt (of_decide_eq_true hwf))
  | bearerQuery a => exact congrArg (some ∘ Request.bearerQuery) (toNat_octet_of_lt (of_decide_eq_true hwf))
  | cancelAlert a => exact congrArg (some ∘ Request.cancelAlert) (toNat_octet_of_lt (of_decide_eq_true hwf))
  | blockBearer a => exact congrArg (some ∘ Request.blockBearer) (toNat_octet_of_lt (of_decide_eq_true hwf))
  | unblockBearer a => exact congrArg (some ∘ Request.unblockBearer) (toNat_octet_of_lt (of_decide_eq_true hwf))
  | clear a b =>
    simp only [Request.wf, Bool.and_eq_true, fitsOctet, decide_eq_true_eq] at hwf
    show some (Request.clear (octet a).toNat (octet b).toNat) = _
    simp only [toNat_octet_of_lt, hwf]
  | alert a b c d e =>
    simp only [Request.wf, Bool.and_eq_true, fitsOctet, decide_eq_true_eq] at hwf
    show some (Request.alert (octet a).toNat (octet b).toNat (octet c).toNat (octet d).toNat (octet e).toNat) = _
    simp only [toNat_octet_of_lt, hwf]
  | testBearer a b c d e =>
    simp only [Request.wf, Bool.and_eq_true, fitsOctet, decide_eq_true_eq] at hwf
    show some (Request.testBearer (octet a).toNat (octet b).toNat (octet c).toNat (octet d).toNat (octet e).toNat) = _
    simp only [toNat_octet_of_lt, hwf]
  | lineConfig a b c d e f =>
    simp only [Request.wf, Bool.and_eq_true, fitsOctet, decide_eq_true_eq] at hwf
    show some (Request.lineConfig (octet a).toNat (octet b).toNat (octet c).toNat (octet d).toNat (octet e).toNat
      (octet f).toNat) = _
    simp only [toNat_octet_of_lt, hwf]
  | setTimers a b c d e f =>
    simp only [Request.wf, Bool.and_eq_true, fitsOctet, decide_eq_true_eq] at hwf
    show some (Request.setTimers (octet a).toNat (octet b).toNat (octet c).toNat (octet d).toNat (octet e).toNat
      (octet f).toNat) = _
    simp only [toNat_octet_of_lt, hwf]

/-- Settles O8: the type of each request names its row of Table 11-6, and the row's fields are read back. -/
theorem requestFrameReadsBack : Obligations.RequestFrameReadsBack := by
  unfold Obligations.RequestFrameReadsBack
  intro r hwf hknown
  rw [Frame.request, requestFrame, requestOf_requestBody hwf hknown, Option.getD_some]

/-! ### A frame received octet by octet -/

/-- R165: octets that arrive in one millisecond meet no gap. -/
@[simp] theorem State.hunterNow_standing (s : State) (h : Hunter) : (s.standing h).hunterNow = h := by
  have hnow : ¬ s.now + Config.octetGapMs < s.now := by omega
  exact if_neg fun hgap => hnow hgap.2

theorem receive_of_more {s : State} {h h' : Hunter} {o : Octet} (htake : h.take o = .more h') (rest : List Octet) :
    receive (s.standing h) (o :: rest) = receive (s.standing h') rest := by
  have hstep := exec_octetReceived_of_more (State.hunterNow_standing s h).symm htake
  rw [receive, hstep]
  rfl

/-- The octets still missing complete the frame, and it is acted on with the last of them. -/
theorem receive_collecting (s : State) {length : Octet} {f : Frame} (hlength : length.toNat = f.body.length + 1)
    {missing : List Octet} (hmissing : missing ≠ []) {held : List Octet}
    (hheld : held ++ missing = f.type :: f.body ++ checkOctets (checkOf (length :: f.type :: f.body))) :
    receive (s.standing (.collecting length held)) missing = .next ((s.standing .hunting).takeFrame f) := by
  induction missing generalizing held with
  | nil => exact absurd rfl hmissing
  | cons o missing ih =>
    have htotal : held.length + (missing.length + 1) = length.toNat + 2 := by
      simpa [hlength, length_checkOctets] using congrArg List.length hheld
    cases missing with
    | nil =>
      have hstep := exec_octetReceived_of_frame (State.hunterNow_standing s (.collecting length held)).symm hlength hheld
      rw [receive, hstep]
      rfl
    | cons p missing =>
      rw [receive_of_more (Hunter.take_collecting_more (by simp only [List.length_cons] at htotal; omega))]
      exact ih (List.cons_ne_nil p missing) (by simpa using hheld)

theorem receive_octets (s : State) {f : Frame} (h : f.body.length < 250) :
    receive (s.standing .hunting) f.octets = .next ((s.standing .hunting).takeFrame f) := by
  have hlength := toNat_lengthOctet h
  rw [Frame.octets, List.cons_append, receive_of_more Hunter.take_hunting_start, Frame.checked, List.cons_append,
    receive_of_more (Hunter.take_length_legal (by omega) (by omega))]
  exact receive_collecting s hlength (by simp) rfl

/-- A HUNTING hunter takes its first octet as one that has stood so since now. -/
theorem receive_of_hunting {s : State} (h : s.sli.hunter = .hunting) (o : Octet) (rest : List Octet) :
    receive s (o :: rest) = receive (s.standing .hunting) (o :: rest) := by
  have hnow : s.hunterNow = .hunting := by simp [State.hunterNow, h]
  have hstep : exec (.octetReceived o) s = exec (.octetReceived o) (s.standing .hunting) := by
    rw [exec_octetReceived, exec_octetReceived, hnow, State.hunterNow_standing]
    rfl
  rw [receive, receive, hstep]

/-- Settles O7: the frame's octets bring the hunter to the frame, whose request is the one it carries. -/
theorem requestReceivedOctetByOctet : Obligations.RequestReceivedOctetByOctet := by
  unfold Obligations.RequestReceivedOctetByOctet
  intro c r s hr hwf hknown hhunter
  have hframe : receive s (requestFrame r).octets = .next ((s.standing .hunting).takeFrame (requestFrame r)) :=
    (receive_of_hunting hhunter _ _).trans (receive_octets s (length_requestBody_lt hwf))
  have hstands : ({ s with sli := { s.sli with lastOctet := s.now } } : State).frameTaken = s.standing .hunting := rfl
  rw [hframe, exec_request hr, State.takeFrame, requestFrameReadsBack r hwf hknown, hstands]

end Sys2Proof.Machine

/-! PROOF. The completion of a frame (R153, R161, R162, R166), and the requests that only show, refuse or configure: the
queries, LINE_CONFIG, ENERGIZE and DEENERGIZE, ALERT's checks, CANCEL_ALERT, TEST_BEARER, SET_TIMERS and RESTART. -/

namespace Sys2Proof.Machine

open Sys2Proof.Slice0

/-! ### The completion of a frame -/

/-- R153: a frame that counts makes the controller PRESENT and its supervision timer start afresh. -/
theorem State.countFrame_eq_counting {w : State} (h : w.sli.hunter = .hunting) : w.countFrame = counting w := by
  obtain ⟨pending, now, fresh, straps, periods, scanner, lines, collector, pool, ring, power, tones, test, highway, sli,
    mode⟩ := w
  obtain ⟨hunter, lastOctet, replies, sending, position, overrun, events, controller, supervision⟩ := sli
  obtain rfl : hunter = .hunting := h
  cases controller with
  | present => rfl
  | lost => rfl

theorem arrived_of_active {s : State} (h : s.mode.mode = .active) : arrived s = counting s := by
  have harrives : arrived s = s.frameTaken.countFrame := by
    unfold arrived State.frameArrives
    rw [show s.frameTaken.mode = s.mode from rfl, h]
  rw [harrives, State.countFrame_eq_counting rfl]
  rfl

theorem State.wake_frameTaken (s : State) : (s.frameTaken.wake .controller).countFrame = frameWoken s := by
  rw [State.countFrame_eq_counting (by simp [State.frameTaken])]
  rfl

/-- R162: the frame wakes a part that conserves, and meets the OFF transitions that it has overtaken. -/
theorem arrived_of_conserve {s : State} (h : s.mode.mode = .conserve) :
    arrived s = (s.scanner.handed.filterMap Handed.wakes).foldl State.meetOff (frameWoken s) := by
  have hhanded : (frameWoken s).scanner.handed = s.scanner.handed := by
    rw [← State.wake_frameTaken]
    simp [State.frameTaken]
  have harrives : arrived s = (s.frameTaken.wake .controller).countFrame.meetOffs := by
    unfold arrived State.frameArrives
    rw [show s.frameTaken.mode = s.mode from rfl, h]
  rw [harrives, State.wake_frameTaken, State.meetOffs, hhanded]

theorem filterMap_wakes_eq_nil {l : List Handed} (h : ∀ n, Handed.off n ∉ l) : l.filterMap Handed.wakes = [] := by
  rw [List.filterMap_eq_nil_iff]
  intro x hx
  cases x with
  | answer n number => rfl
  | off n => exact absurd hx (h n)

theorem State.takeHanded_off_of_active {s : State} {n : LineNo} (hmode : s.mode.mode = .active)
    (hidle : (s.line n).callState = .idle) : s.takeHanded (.off n) = (without s (.off n)).originate n := by
  have hawake : (s.unhand (.off n)).wakeIfConserving (.line n) = s.unhand (.off n) := by
    unfold State.wakeIfConserving
    rw [show (s.unhand (.off n)).mode = s.mode from rfl, hmode]
  rw [State.takeHanded, hawake, State.takeOff, show ((s.unhand (.off n)).line n) = s.line n from rfl, hidle]
  rfl

theorem State.meetOff_of_idle (w : State) (n : LineNo) :
    w.meetOff n = (without { w with fresh := w.fresh + 1 } (.off n)).originate n ∨
      w.meetOff n = { w with fresh := w.fresh + 1 } := by
  unfold State.meetOff
  split
  · exact .inl rfl
  · exact .inr rfl

theorem State.meetOff_of_not_idle {w : State} {n : LineNo} (h : (w.line n).callState ≠ .idle) :
    w.meetOff n = { w with fresh := w.fresh + 1 } :=
  if_neg fun hmet => h hmet.1

theorem frameWoken_fresh (s : State) : (frameWoken s).fresh = s.fresh := by
  rw [← State.wake_frameTaken]
  simp [State.frameTaken]

/-- Settles O9: an ACTIVE part counts the frame, a conserving one is woken by it and meets the transitions it overtook. -/
theorem frameCompletionWakesCountsAndDrops : Obligations.FrameCompletionWakesCountsAndDrops := by
  unfold Obligations.FrameCompletionWakesCountsAndDrops
  intro s
  refine ⟨arrived_of_active, fun hmode => ⟨fun hnone => ?_, fun n hone => ?_⟩,
    fun n hmode hidle => State.takeHanded_off_of_active hmode hidle, fun c r hr hfull => ?_⟩
  · rw [arrived_of_conserve hmode, filterMap_wakes_eq_nil hnone]
    rfl
  · have hmet : arrived s = (frameWoken s).meetOff n := by
      rw [arrived_of_conserve hmode, hone, show [Handed.off n].filterMap Handed.wakes = [n] from rfl, List.foldl_cons,
        List.foldl_nil]
    rw [hmet, ← frameWoken_fresh s]
    exact ⟨fun _ => State.meetOff_of_idle _ n, State.meetOff_of_not_idle⟩
  · rw [exec_request hr, State.completeFrame_of_full hfull]
    rfl

end Sys2Proof.Machine

/-! PROOF. The queries, LINE_CONFIG, ENERGIZE and DEENERGIZE (R18, R19, R41, R42, R87, R124). -/

namespace Sys2Proof.Machine

open Sys2Proof.Slice0

/-! ### The queries -/

/-- A list whose items are one octet each. -/
theorem counted_octets {α : Type} (l : List α) (f : α → Octet) :
    counted (l.map fun x => [f x]) = octet l.length :: l.map f := by
  rw [counted, List.length_map, ← List.flatMap_def, ← List.map_eq_flatMap]

theorem length_lineSnapshot (s : State) (n : LineNo) : (s.lineSnapshot n).length = 21 + (s.line n).digits.length := by
  simp only [State.lineSnapshot, counted_octets, List.length_append, List.length_cons, List.length_map, List.length_nil]
  omega

section

variable {s : State} (hroom : s.sli.replies.length < 4)
include hroom

theorem exec_partQuery :
    exec .partQuery s = .next (replied (arrived s) 0x81
      (0 :: twoOctets (setBits PartEvent.all (arrived s).sli.events) ++ (arrived s).partSnapshot)) :=
  exec_request_of_serve (r := .partQuery) rfl hroom rfl

theorem exec_lineQuery_of_line (n : LineNo) :
    exec (.lineQuery n.1) s = .next (replied (arrived s) 0x82
      (0 :: threeOctets (setBits LineEvent.all ((arrived s).line n).events) ++ (arrived s).lineSnapshot n)) := by
  refine exec_request_of_serve (r := .lineQuery n.1) rfl hroom ?_
  simp only [Request.serve, State.serveLineQuery, lineNo_val]
  rfl

theorem exec_lineQuery_of_bad_target {v : Nat} (hv : 24 ≤ v) :
    exec (.lineQuery v) s = .next (replied (arrived s) 0x82 [2]) := by
  refine exec_request_of_serve (r := .lineQuery v) rfl hroom ?_
  simp only [Request.serve, State.serveLineQuery, lineNo_of_le hv]
  rfl

theorem exec_bearerQuery_of_bearer (b : BearerNo) :
    exec (.bearerQuery b.1) s = .next (replied (arrived s) 0x83
      (0 :: octet (setBits BearerEvent.all ((arrived s).bearer b).events) :: (arrived s).bearerSnapshot b
        ++ (octet (arrived s).pool.freeList.length :: (arrived s).pool.freeList.map fun f => octet f.1)
        ++ (octet (arrived s).pool.queue.length ::
            ((arrived s).pool.queue.map fun e => [octet e.1.1, octet e.2.code]).flatten))) := by
  refine exec_request_of_serve (r := .bearerQuery b.1) rfl hroom ?_
  simp only [Request.serve, State.serveBearerQuery, bearerNo_val, counted_octets]
  simp only [reply, counted, List.length_map]
  rfl

theorem exec_bearerQuery_of_bad_target {v : Nat} (hv : 6 ≤ v) :
    exec (.bearerQuery v) s = .next (replied (arrived s) 0x83 [2]) := by
  refine exec_request_of_serve (r := .bearerQuery v) rfl hroom ?_
  simp only [Request.serve, State.serveBearerQuery, bearerNo_of_le hv]
  rfl

theorem exec_unknownRequest (type : Octet) :
    exec (.unknownRequest type) s = .next (replied (arrived s) (type ||| 0x80) [1]) :=
  exec_request_of_serve (r := .unknown type) rfl hroom rfl

end

/-- Settles O10: a query replies from the part as the frame has left it, and its snapshots have fixed lengths. -/
theorem queriesAndMalformedRecordsChangeNothing : Obligations.QueriesAndMalformedRecordsChangeNothing := by
  unfold Obligations.QueriesAndMalformedRecordsChangeNothing
  intro s hroom
  exact ⟨exec_partQuery hroom, exec_lineQuery_of_line hroom, fun v => exec_lineQuery_of_bad_target hroom,
    exec_bearerQuery_of_bearer hroom, fun v => exec_bearerQuery_of_bad_target hroom, exec_unknownRequest hroom, rfl,
    fun _ => rfl, length_lineSnapshot (arrived s)⟩

/-! ### The fields of LINE_CONFIG -/

theorem signallingOf_of_le {v : Nat} (h : 2 ≤ v) : signallingOf v = none := by
  match v with
  | _ + 2 => rfl

theorem ceilingOf_of_le {v : Nat} (h : 2 ≤ v) : ceilingOf v = none := by
  match v with
  | _ + 2 => rfl

theorem yesOf_of_le {v : Nat} (h : 2 ≤ v) : yesOf v = none := by
  match v with
  | _ + 2 => rfl

theorem signallingOf_of_lt {v : Nat} (h : v < 2) : signallingOf v = some (if v = 0 then .pulse else .tone) := by
  match v with
  | 0 | 1 => rfl

theorem ceilingOf_of_lt {v : Nat} (h : v < 2) : ceilingOf v = some (if v = 0 then .full else .reduced) := by
  match v with
  | 0 | 1 => rfl

theorem yesOf_of_lt {v : Nat} (h : v < 2) : yesOf v = some (decide (v = 1)) := by
  match v with
  | 0 | 1 => rfl

theorem octet_signalling_code {v : Nat} (h : v < 2) :
    octet (if v = 0 then Signalling.pulse else .tone).code = octet v := by
  match v with
  | 0 | 1 => rfl

theorem octet_ceiling_code {v : Nat} (h : v < 2) : octet (if v = 0 then Ceiling.full else .reduced).code = octet v := by
  match v with
  | 0 | 1 => rfl

theorem yesNo_one {v : Nat} (h : v < 2) : yesNo (decide (v = 1)) = octet v := by
  match v with
  | 0 | 1 => rfl

theorem orAbsent_alertGroupOf (g : Nat) :
    orAbsent ((alertGroupOf g).map Fin.val) = if g < 32 then octet g else 0xFF := by
  unfold alertGroupOf
  split
  · rfl
  · rfl

theorem lineSettings_of_bad_value {signalling load group ceiling restricted : Nat}
    (h : 2 ≤ signalling ∨ 2 ≤ ceiling ∨ 2 ≤ restricted) :
    lineSettings signalling load group ceiling restricted = none := by
  unfold lineSettings
  obtain h | h | h := h
  · rw [signallingOf_of_le h]
  · rw [ceilingOf_of_le h]
    split
    · simp_all
    · rfl
  · rw [yesOf_of_le h]
    split
    · simp_all
    · rfl

/-- R41: the settings of legal values, the load clamped and a group above 31 absent. -/
theorem lineSettings_of_legal {signalling ceiling restricted : Nat} (load group : Nat) (hs : signalling < 2)
    (hc : ceiling < 2) (hr : restricted < 2) :
    lineSettings signalling load group ceiling restricted = some
      { signalling := if signalling = 0 then .pulse else .tone, ringerLoad := max 1 (min 5 load)
        alertGroup := alertGroupOf group, ceiling := if ceiling = 0 then .full else .reduced
        restricted := decide (restricted = 1) } := by
  rw [lineSettings, signallingOf_of_lt hs, ceilingOf_of_lt hc, yesOf_of_lt hr]
  rfl

theorem CallState.configurable_iff (c : CallState) : c.configurable = true ↔ c = .deenergized ∨ c = .idle := by
  cases c <;> simp [CallState.configurable]

/-! ### The outcomes of LINE_CONFIG -/

section

variable {s : State} (hroom : s.sli.replies.length < 4) {signalling load group ceiling restricted : Nat}
include hroom

theorem exec_lineConfig_of_bad_target {v : Nat} (hv : 24 ≤ v) :
    exec (.lineConfig v signalling load group ceiling restricted) s = .next (replied (arrived s) 0x88 [2, octet v]) := by
  refine exec_request_of_serve (r := .lineConfig v signalling load group ceiling restricted) rfl hroom ?_
  simp only [Request.serve, State.serveLineConfig, lineNo_of_le hv]
  rfl

theorem exec_lineConfig_of_bad_value (n : LineNo) (h : lineSettings signalling load group ceiling restricted = none) :
    exec (.lineConfig n.1 signalling load group ceiling restricted) s =
      .next (replied (arrived s) 0x88 [1, octet n.1]) := by
  refine exec_request_of_serve (r := .lineConfig n.1 signalling load group ceiling restricted) rfl hroom ?_
  simp only [Request.serve, State.serveLineConfig, lineNo_val, h]
  rfl

variable {n : LineNo} {c : LineSettings} (hc : lineSettings signalling load group ceiling restricted = some c)
include hc

theorem exec_lineConfig_of_wrong_state (h : ¬ ((arrived s).line n).callState.configurable = true) :
    exec (.lineConfig n.1 signalling load group ceiling restricted) s =
      .next (replied (arrived s) 0x88 [4, octet n.1]) := by
  refine exec_request_of_serve (r := .lineConfig n.1 signalling load group ceiling restricted) rfl hroom ?_
  simp only [Request.serve, State.serveLineConfig, lineNo_val, hc, if_neg h]
  rfl

theorem exec_lineConfig_of_configurable (h : ((arrived s).line n).callState.configurable = true) :
    exec (.lineConfig n.1 signalling load group ceiling restricted) s =
      .next (replied ((arrived s).modLine n fun r => r.configured c) 0x88 (0 :: octet n.1 :: settingOctets c)) := by
  refine exec_request_of_serve (r := .lineConfig n.1 signalling load group ceiling restricted) rfl hroom ?_
  simp only [Request.serve, State.serveLineConfig, lineNo_val, hc, if_pos h]
  rfl

end

/-- Settles O11: the three checks in order, then the settings that legal values carry, written and echoed. -/
theorem lineConfigWritesFiveFieldsOrRefuses : Obligations.LineConfigWritesFiveFieldsOrRefuses := by
  unfold Obligations.LineConfigWritesFiveFieldsOrRefuses
  intro s signalling load group ceiling restricted hroom
  refine ⟨fun v => exec_lineConfig_of_bad_target hroom, fun n =>
    ⟨fun h => exec_lineConfig_of_bad_value hroom n (lineSettings_of_bad_value h), fun hs hc hr => ⟨fun hd hi => ?_,
      fun h => ?_⟩⟩⟩
  · refine exec_lineConfig_of_wrong_state hroom (lineSettings_of_legal load group hs hc hr) ?_
    rw [CallState.configurable_iff]
    tauto
  · rw [exec_lineConfig_of_configurable hroom (lineSettings_of_legal load group hs hc hr)
      ((CallState.configurable_iff _).2 h), settingOctets, octet_signalling_code hs, octet_ceiling_code hc, yesNo_one hr,
      orAbsent_alertGroupOf]
    rfl

/-! ### ENERGIZE and DEENERGIZE -/

theorem lineNos_map_val (ns : List LineNo) : lineNos (ns.map Fin.val) = some ns := by
  induction ns with
  | nil => rfl
  | cons n ns ih => rw [List.map_cons, lineNos, lineNo_val, ih]

theorem lineNos_of_bad_target {vs : List Nat} (h : ∃ v ∈ vs, 24 ≤ v) : lineNos vs = none := by
  induction vs with
  | nil => simp at h
  | cons v vs ih =>
    obtain ⟨w, hw, hle⟩ := h
    rw [lineNos]
    obtain rfl | hw := List.mem_cons.1 hw
    · rw [lineNo_of_le hle]
    · rw [ih ⟨w, hw, hle⟩]
      split
      · simp_all
      · rfl

/-- R19, R26: the record, the samples and the signals of a line that is deenergized. -/
theorem State.deenergizeOne_eq_turn : State.deenergizeOne = deenergizeTurn := by
  funext s n
  unfold State.deenergizeOne deenergizeTurn
  cases hc : (s.line n).callState with
  | idle =>
    simp only [if_true]
    rw [State.deenergizeLine, State.addLineEvent, State.modLine_modLine]
    rfl
  | deenergized => rfl
  | _ => rfl

theorem State.takeLines_eq_inTurn (one : State → LineNo → State × Nat) (ns : List LineNo) (s : State) :
    s.takeLines one ns = inTurn one s ns := by
  induction ns generalizing s with
  | nil => rfl
  | cons n ns ih =>
    rw [State.takeLines, inTurn]
    simp only [ih]

section

variable {one : State → LineNo → State × Nat} {type : Octet} (u : State)

theorem State.serveLines_of_bad_count {lines : List Nat} (h : lines.length = 0 ∨ 24 < lines.length) :
    u.serveLines type one lines = (u, reply type .badRecord []) :=
  if_pos h

theorem State.serveLines_of_bad_target {lines : List Nat} (hlow : 1 ≤ lines.length) (hhigh : lines.length ≤ 24)
    (h : ∃ v ∈ lines, 24 ≤ v) : u.serveLines type one lines = (u, reply type .badTarget []) := by
  rw [State.serveLines, if_neg (by omega), lineNos_of_bad_target h]

theorem State.serveLines_of_lines {ns : List LineNo} (hlow : 1 ≤ ns.length) (hhigh : ns.length ≤ 24) :
    u.serveLines type one (ns.map Fin.val) = ((inTurn one u ns).1, reply type .ok (inTurn one u ns).2) := by
  rw [State.serveLines, if_neg (by rw [List.length_map]; omega), lineNos_map_val]
  simp only [State.takeLines_eq_inTurn]

end

/-- R18, R19: a request on lines does what the lines' turns do. -/
theorem exec_energize_of_serve {s t : State} {lines : List Nat} {body : List Octet} (hroom : s.sli.replies.length < 4)
    (hserve : (arrived s).serveLines 0x09 energizeTurn lines = (t, { type := 0x89, body := body })) :
    exec (.energize lines) s = .next (replied t 0x89 body) :=
  exec_request_of_serve (r := .energize lines) rfl hroom hserve

theorem exec_deenergize_of_serve {s t : State} {lines : List Nat} {body : List Octet} (hroom : s.sli.replies.length < 4)
    (hserve : (arrived s).serveLines 0x0A deenergizeTurn lines = (t, { type := 0x8A, body := body })) :
    exec (.deenergize lines) s = .next (replied t 0x8A body) :=
  exec_request_of_serve (r := .deenergize lines) rfl hroom <| by
    rw [← hserve, ← State.deenergizeOne_eq_turn]
    rfl

/-- Settles O12: the count, then the numbers, then each line in its turn. -/
theorem energizeAndDeenergizeTakeLinesInOrder : Obligations.EnergizeAndDeenergizeTakeLinesInOrder := by
  unfold Obligations.EnergizeAndDeenergizeTakeLinesInOrder
  intro s hroom
  refine ⟨fun lines h => ⟨?_, ?_⟩, fun lines hlow hhigh h => ⟨?_, ?_⟩, fun ns hlow hhigh => ⟨?_, ?_⟩⟩
  · exact exec_energize_of_serve hroom (State.serveLines_of_bad_count _ h)
  · exact exec_deenergize_of_serve hroom (State.serveLines_of_bad_count _ h)
  · exact exec_energize_of_serve hroom (State.serveLines_of_bad_target _ hlow hhigh h)
  · exact exec_deenergize_of_serve hroom (State.serveLines_of_bad_target _ hlow hhigh h)
  · exact exec_energize_of_serve hroom (State.serveLines_of_lines _ hlow hhigh)
  · exact exec_deenergize_of_serve hroom (State.serveLines_of_lines _ hlow hhigh)

end Sys2Proof.Machine

/-! PROOF. The refusals of ALERT (R90, Table 5-3), CANCEL_ALERT and the ring timeout (R103 to R105), the entry rule (R71),
TEST_BEARER (R137), SET_TIMERS (R153) and RESTART (R171). -/

namespace Sys2Proof.Machine

open Sys2Proof.Slice0

/-! ### The first of the numbers that have a property -/

theorem find?_finRange_of_first {k : Nat} {P : Fin k → Bool} {p : Fin k} (hp : P p = true)
    (hfirst : ∀ q, q < p → P q = false) : (List.finRange k).find? P = some p := by
  rw [List.find?_eq_some_iff_getElem]
  refine ⟨hp, p.1, by simp, by simp, fun j hj => ?_⟩
  simpa using hfirst ⟨j, hj.trans p.2⟩ hj

theorem find?_finRange_eq_none {k : Nat} {P : Fin k → Bool} (h : ∀ p, P p = false) : (List.finRange k).find? P = none := by
  simp [List.find?_eq_none, h]

theorem exists_find?_finRange {k : Nat} {P : Fin k → Bool} (h : ∃ p, P p = true) : ∃ p, (List.finRange k).find? P = some p := by
  obtain ⟨p, hp⟩ := h
  exact Option.isSome_iff_exists.1 (List.find?_isSome.2 ⟨p, List.mem_finRange p, hp⟩)

/-! ### The checks of ALERT -/

theorem State.emptyPosition_of_full {s : State} (h : ∀ p, s.alertAt p ≠ none) : s.emptyPosition = none :=
  find?_finRange_eq_none fun p => decide_eq_false (h p)

theorem State.exists_emptyPosition {s : State} (h : ∃ p, s.alertAt p = none) : ∃ p, s.emptyPosition = some p := by
  obtain ⟨p, hp⟩ := h
  exact exists_find?_finRange ⟨p, decide_eq_true hp⟩

/-- R88: the record under a number is the first one that has it. -/
theorem State.findAlert_of_first {s : State} {p : AlertPos} {a : AlertRecord} (ha : s.alertAt p = some a)
    (hfirst : ∀ q b, q < p → s.alertAt q = some b → b.number ≠ a.number) : s.findAlert a.number = some p := by
  refine find?_finRange_of_first (by simp [ha]) fun q hq => ?_
  cases hb : s.alertAt q with
  | none => rfl
  | some b => exact decide_eq_false (hfirst q b hq hb)

theorem State.findAlert_isSome {s : State} {number : Nat} (h : ∃ p a, s.alertAt p = some a ∧ a.number = number) :
    (s.findAlert number).isSome = true := by
  obtain ⟨p, a, ha, hnum⟩ := h
  exact List.find?_isSome.2 ⟨p, List.mem_finRange p, by simp [ha, hnum]⟩

theorem ringCadenceOf_of_bad {v : Nat} (h : v < 4 ∨ 7 < v) : ringCadenceOf v = none := by
  unfold ringCadenceOf
  split
  · exact cadenceNo_of_le (by omega)
  · rfl

theorem targetOf_of_bad_kind {kind : Nat} (h : 1 < kind) (target : Nat) : targetOf kind target = none := by
  match kind with
  | _ + 2 => rfl

theorem targetOf_of_bad_number {kind target : Nat} (h : kind = 0 ∧ 24 ≤ target ∨ kind = 1 ∧ 32 ≤ target) :
    targetOf kind target = some none := by
  obtain ⟨rfl, h⟩ | ⟨rfl, h⟩ := h
  · rw [targetOf, lineNo_of_le h, Option.map_none]
  · rw [targetOf, dif_neg (Nat.not_lt.2 h)]

/-- R90, check 6: no candidate, no selection. -/
theorem State.select_candidates_of_none {s : State} {t : Target}
    (h : ∀ m, (s.line m).callState = .idle → ¬ (t = .line m ∨ ∃ g, t = .group g ∧ (s.line m).alertGroup = some g)) :
    s.select (s.candidates t) = none := by
  have hnil : s.candidates t = [] := List.eq_nil_iff_forall_not_mem.2 fun m hm =>
    have ⟨hidle, hnamed⟩ := (s.mem_candidates_iff t m).1 hm
    h m hidle hnamed
  rw [hnil]
  rfl

theorem State.exists_select_candidates {s : State} {t : Target} (h : ∃ m, m ∈ s.candidates t) :
    ∃ sel, s.select (s.candidates t) = some sel := by
  obtain ⟨m, hm⟩ := h
  cases hc : s.candidates t with
  | nil => simp [hc] at hm
  | cons n rest => exact ⟨_, s.select_cons n rest⟩

/-- R80: with no bearer FREE, only a test that yields gives one up. -/
theorem State.bearerForAlert_of_no_source {s : State} (hfree : s.pool.freeList = [])
    (htest : ∀ t, s.test = some t → t.yields = false) : s.bearerForAlert = none := by
  rw [State.bearerForAlert, hfree]
  cases ht : s.test with
  | none => rfl
  | some t => exact if_neg (by simp [htest t ht])

section

variable {u : State} {number kind target cadence timeout : Nat} {pos : AlertPos}

theorem State.serveAlert_of_full (h : u.emptyPosition = none) :
    u.serveAlert number kind target cadence timeout = (u, reply 0x10 .tableFull [octet number]) := by
  rw [State.serveAlert, h]

variable (hpos : u.emptyPosition = some pos)
include hpos

theorem State.serveAlert_of_zero : u.serveAlert 0 kind target cadence timeout = (u, reply 0x10 .badRecord [octet 0]) := by
  rw [State.serveAlert, hpos]
  rfl

theorem State.serveAlert_of_duplicate (hnum : number ≠ 0) (h : (u.findAlert number).isSome = true) :
    u.serveAlert number kind target cadence timeout = (u, reply 0x10 .duplicate [octet number]) := by
  simp only [State.serveAlert, hpos, if_neg hnum, if_pos h]

variable (hnum : number ≠ 0) (hunused : u.findAlert number = none)
include hnum hunused

theorem State.serveAlert_of_bad_record (h : ringCadenceOf cadence = none ∨ targetOf kind target = none) :
    u.serveAlert number kind target cadence timeout = (u, reply 0x10 .badRecord [octet number]) := by
  simp only [State.serveAlert, hpos, if_neg hnum, hunused, Option.isSome_none, Bool.false_eq_true, if_false]
  split
  · simp_all
  · rfl

theorem State.serveAlert_of_fields {c : CadenceNo} {t : Option Target} (hc : ringCadenceOf cadence = some c)
    (ht : targetOf kind target = some t) :
    u.serveAlert number kind target cadence timeout = u.offerAlert pos number t c (clampRingTimeout timeout) := by
  simp only [State.serveAlert, hpos, if_neg hnum, hunused, hc, ht, Option.isSome_none, Bool.false_eq_true, if_false]

end

section

variable {u : State} {number timeout : Nat} {pos : AlertPos} {cadence : CadenceNo} {t : Target}

theorem State.offerAlert_of_bad_target :
    u.offerAlert pos number none cadence timeout = (u, reply 0x10 .badTarget [octet number]) :=
  rfl

theorem State.offerAlert_of_busy (h : u.select (u.candidates t) = none) :
    u.offerAlert pos number (some t) cadence timeout = (u, reply 0x10 .busy [octet number]) := by
  simp only [State.offerAlert, h]

variable {sel : Selection} (hsel : u.select (u.candidates t) = some sel)
include hsel

theorem State.offerAlert_of_no_power (h : u.power.budget < u.committed + 6) :
    u.offerAlert pos number (some t) cadence timeout = (u, reply 0x10 .noPower [octet number]) := by
  have hexceeds : u.power.budget < u.committed + Config.answerReservePU := h
  simp only [State.offerAlert, hsel, if_pos hexceeds]

/-- R90, checks 8 and 9: an ALERT without a bearer is refused, and so is one while the highway is DOWN. -/
theorem State.offerAlert_of_no_bearer (hpower : u.committed + 6 ≤ u.power.budget)
    (h : u.highway.state = .down ∨ u.bearerForAlert = none) :
    u.offerAlert pos number (some t) cadence timeout = (u, reply 0x10 .noBearer [octet number]) := by
  have hwithin : ¬ u.power.budget < u.committed + Config.answerReservePU := Nat.not_lt.2 hpower
  simp only [State.offerAlert, hsel, if_neg hwithin]
  split
  · rfl
  · rw [h.resolve_left ‹_›]

end

theorem exec_alert_of_refused {s : State} {number kind target cadence timeout : Nat} {r : Result} {code : Octet}
    (hroom : s.sli.replies.length < 4) (hcode : octet r.code = code)
    (h : (arrived s).serveAlert number kind target cadence timeout = (arrived s, reply 0x10 r [octet number])) :
    exec (.alert number kind target cadence timeout) s = .next (replied (arrived s) 0x90 [code, octet number]) := by
  refine exec_request_of_serve (r := .alert number kind target cadence timeout) rfl hroom ?_
  rw [← hcode]
  exact h

/-- Settles O14: the checks in the order of Table 5-3, each with those before it passed. -/
theorem alertChecksRefuseInOrder : Obligations.AlertChecksRefuseInOrder := by
  unfold Obligations.AlertChecksRefuseInOrder
  intro s number kind target cadence timeout hroom u refused
  refine ⟨fun hfull => exec_alert_of_refused hroom rfl (State.serveAlert_of_full (State.emptyPosition_of_full hfull)),
    fun hempty hzero => ?_, fun hempty hnum hused => ?_, fun hempty hnum hunused => ⟨fun hbad => ?_, fun hlow hhigh => ?_⟩⟩
  all_goals obtain ⟨pos, hpos⟩ := State.exists_emptyPosition hempty
  · subst hzero
    exact exec_alert_of_refused hroom rfl (State.serveAlert_of_zero hpos)
  · exact exec_alert_of_refused hroom rfl (State.serveAlert_of_duplicate hpos hnum (State.findAlert_isSome hused))
  · refine exec_alert_of_refused hroom rfl
      (State.serveAlert_of_bad_record hpos hnum (State.findAlert_of_unused hunused) ?_)
    obtain hbad | hbad | hbad := hbad
    · exact .inl (ringCadenceOf_of_bad (.inl hbad))
    · exact .inl (ringCadenceOf_of_bad (.inr hbad))
    · exact .inr (targetOf_of_bad_kind hbad target)
  have hcadence : ringCadenceOf cadence = some ⟨cadence, by omega⟩ := ringCadenceOf_of_le (c := ⟨cadence, by omega⟩) hlow
  have hoffer {t : Option Target} (ht : targetOf kind target = some t) :=
    State.serveAlert_of_fields (timeout := timeout) hpos hnum (State.findAlert_of_unused hunused) hcadence ht
  refine ⟨fun hbad => ?_, fun hkind n hn hbusy => ?_, fun hkind g hg hbusy => ?_, fun hnamed => ?_⟩
  · exact exec_alert_of_refused hroom rfl ((hoffer (targetOf_of_bad_number hbad)).trans State.offerAlert_of_bad_target)
  · refine exec_alert_of_refused hroom rfl ((hoffer (targetOf_of_named (.inl ⟨hkind, n, hn, rfl⟩))).trans
      (State.offerAlert_of_busy (State.select_candidates_of_none fun m hidle => ?_)))
    rintro (h | ⟨g, h, -⟩)
    · exact hbusy (Target.line.inj h ▸ hidle)
    · cases h
  · refine exec_alert_of_refused hroom rfl ((hoffer (targetOf_of_named (.inr ⟨hkind, g, hg, rfl⟩))).trans
      (State.offerAlert_of_busy (State.select_candidates_of_none fun m hidle => ?_)))
    rintro (h | ⟨g', h, hgroup⟩)
    · cases h
    · exact hbusy m hidle (Target.group.inj h ▸ hgroup)
  obtain ⟨t, ht, hcandidate⟩ : ∃ t, targetOf kind target = some (some t) ∧ ∃ m, m ∈ u.candidates t := by
    obtain ⟨hkind, n, hn, hidle⟩ | ⟨hkind, g, hg, n, hidle, hgroup⟩ := hnamed
    · exact ⟨.line n, targetOf_of_named (.inl ⟨hkind, n, hn, rfl⟩), n, (u.mem_candidates_iff _ n).2 ⟨hidle, .inl rfl⟩⟩
    · exact ⟨.group g, targetOf_of_named (.inr ⟨hkind, g, hg, rfl⟩), n,
        (u.mem_candidates_iff _ n).2 ⟨hidle, .inr ⟨g, rfl, hgroup⟩⟩⟩
  obtain ⟨sel, hsel⟩ := State.exists_select_candidates hcandidate
  refine ⟨fun hpower => ?_, fun hpower hdown => ?_, fun hpower hfree htest => ?_⟩
  · exact exec_alert_of_refused hroom rfl ((hoffer ht).trans (State.offerAlert_of_no_power hsel hpower))
  · exact exec_alert_of_refused hroom rfl ((hoffer ht).trans (State.offerAlert_of_no_bearer hsel hpower (.inl hdown)))
  · exact exec_alert_of_refused hroom rfl ((hoffer ht).trans
      (State.offerAlert_of_no_bearer hsel hpower (.inr (State.bearerForAlert_of_no_source hfree htest))))

/-! ### The end of an outstanding alert -/

theorem AlertState.outstanding_iff (st : AlertState) : st.outstanding = true ↔ st = .queued ∨ st = .placed := by
  cases st <;> simp [AlertState.outstanding]

theorem AlertState.outstanding_eq_false_iff (st : AlertState) : st.outstanding = false ↔ st ≠ .queued ∧ st ≠ .placed := by
  cases st <;> simp [AlertState.outstanding]

/-- R105: what the end of an alert without an answer makes of the table and the placement order. -/
theorem State.endUnanswered_eq {s : State} {p : AlertPos} {a : AlertRecord} (ha : s.alertAt p = some a)
    (final : AlertState) (cause : Option AlertCause) :
    s.endUnanswered p final cause = ({ s with ring := { s.ring with
      alerts := s.ring.alerts.set p.1 (some (a.ended final cause none)) p.2
      placed := s.ring.placed.erase p } } : State).returnMembers a.members := by
  simp only [State.endUnanswered, ha, State.endRecord, State.modAlert, Option.map_some]
  rfl

theorem State.endReturning_eq_endedReturning {s : State} {p : AlertPos} {a : AlertRecord} (ha : s.alertAt p = some a)
    (final : AlertState) : s.endReturning p final = endedReturning s p a final := by
  simp only [State.endReturning, ha, State.endUnanswered_eq ha]
  rfl

theorem State.ringTimeoutRuns_of_some {s : State} {p : AlertPos} {a : AlertRecord} (ha : s.alertAt p = some a) :
    s.ringTimeoutRuns p = (a.state.outstanding && a.expires.isSome) := by
  rw [State.ringTimeoutRuns, ha]

theorem exec_ringTimeout_of_runs {s : State} {p : AlertPos} (h : s.ringTimeoutRuns p = true) :
    exec (.ringTimeout p) s = .next ((s.endReturning p .noAnswer).settle s.committed) :=
  congrArg Host.Outcome.next (if_pos h)

theorem exec_ringTimeout_of_stopped {s : State} {p : AlertPos} (h : s.ringTimeoutRuns p = false) :
    exec (.ringTimeout p) s = .next s :=
  congrArg Host.Outcome.next (if_neg (by simp [h]))

section

variable {s : State} (hroom : s.sli.replies.length < 4)
include hroom

theorem exec_cancelAlert_of_unknown {number : Nat} (h : (arrived s).findAlert number = none) :
    exec (.cancelAlert number) s = .next (replied (arrived s) 0x91 [9, octet number]) := by
  refine exec_request_of_serve (r := .cancelAlert number) rfl hroom ?_
  simp only [Request.serve, State.serveCancelAlert, h]
  rfl

variable {p : AlertPos} {a : AlertRecord} {number : Nat} (hfind : (arrived s).findAlert number = some p)
  (ha : (arrived s).alertAt p = some a)
include hfind ha

theorem exec_cancelAlert_of_outstanding (h : a.state.outstanding = true) :
    exec (.cancelAlert number) s = .next (replied ((endedReturning (arrived s) p a .cancelled).settle (arrived s).committed)
      0x91 [0, octet number, 4, 0xFF, 0xFF]) := by
  refine exec_request_of_serve (r := .cancelAlert number) rfl hroom ?_
  simp only [Request.serve, State.serveCancelAlert, hfind, ha, if_pos h, State.accounted,
    State.endReturning_eq_endedReturning ha]
  rfl

theorem exec_cancelAlert_of_final (h : a.state.outstanding = false) :
    exec (.cancelAlert number) s = .next (replied (arrived s) 0x91 [10, octet number, octet a.state.code,
      orAbsent (a.answering.map Fin.val), orAbsent (a.cause.map AlertCause.code)]) := by
  refine exec_request_of_serve (r := .cancelAlert number) rfl hroom ?_
  simp only [Request.serve, State.serveCancelAlert, hfind, ha, h, Bool.false_eq_true, if_false]
  rfl

end

/-- Settles O17: CANCEL_ALERT by the record under the number, and the ring timeout by whether it runs. -/
theorem cancelAndRingTimeoutEndAnAlert : Obligations.CancelAndRingTimeoutEndAnAlert := by
  unfold Obligations.CancelAndRingTimeoutEndAnAlert
  intro s
  refine ⟨fun hroom => ⟨fun number hunused => ?_, fun p a ha hfirst => ⟨fun hout => ?_, fun hq hp => ?_⟩⟩,
    fun p => ⟨fun a x ha hx hout => ?_, fun h => ?_⟩⟩
  · exact exec_cancelAlert_of_unknown hroom (State.findAlert_of_unused hunused)
  · exact exec_cancelAlert_of_outstanding hroom (State.findAlert_of_first ha hfirst) ha (a.state.outstanding_iff.2 hout)
  · exact exec_cancelAlert_of_final hroom (State.findAlert_of_first ha hfirst) ha
      (a.state.outstanding_eq_false_iff.2 ⟨hq, hp⟩)
  · rw [exec_ringTimeout_of_runs, State.endReturning_eq_endedReturning ha]
    rw [State.ringTimeoutRuns_of_some ha, a.state.outstanding_iff.2 hout, hx]
    rfl
  · refine exec_ringTimeout_of_stopped ?_
    cases ha : s.alertAt p with
    | none => rw [State.ringTimeoutRuns, ha]
    | some a =>
      rw [State.ringTimeoutRuns_of_some ha]
      obtain hx | hout := h a ha
      · simp [hx]
      · simp [a.state.outstanding_eq_false_iff.2 hout]

/-! ### The entry rule -/

theorem State.grant_eq_granted (s : State) (n : LineNo) (b : BearerNo) : s.grant n b = granted s n b := by
  rw [State.grant, State.hold, State.addLineEvent, State.modLine_modLine]
  rfl

theorem State.enterFree_of_pending_block {s : State} {b : BearerNo} (h : (s.bearer b).blockPending = true) :
    s.enterFree b = s.modBearer b fun r =>
      { r with state := .blocked, downReason := none, holder := none, blockPending := false,
               events := addKind BearerEvent.all .blocked r.events } := by
  rw [State.enterFree, if_pos h, State.addBearerEvent, State.modBearer_modBearer]

theorem State.enterFree_of_queue {s : State} {b : BearerNo} {n : LineNo} {c : QueueClass}
    {rest : List (LineNo × QueueClass)} (h : (s.bearer b).blockPending = false) (hqueue : s.pool.queue = (n, c) :: rest) :
    s.enterFree b = granted { s with pool := { s.pool with queue := rest } } n b := by
  rw [← State.grant_eq_granted, State.enterFree, if_neg (by simp [h]), hqueue]

theorem State.enterFree_of_no_queue {s : State} {b : BearerNo} (h : (s.bearer b).blockPending = false)
    (hqueue : s.pool.queue = []) :
    s.enterFree b = ({ s with pool := { s.pool with freeList := s.pool.freeList ++ [b] } } : State).modBearer b fun r =>
      { r with state := .free, downReason := none, holder := none } := by
  rw [State.enterFree, if_neg (by simp [h]), hqueue]

/-- Settles O20: the pending block, then the head of the seizure queue, then the free list. -/
theorem bearerEntersFreeByTheEntryRule : Obligations.BearerEntersFreeByTheEntryRule :=
  fun _ _ => ⟨State.enterFree_of_pending_block, fun _ _ _ => State.enterFree_of_queue, State.enterFree_of_no_queue⟩

end Sys2Proof.Machine

/-! PROOF. TEST_BEARER (R137, R138), SET_TIMERS (R2, R34, R51, R153), RESTART (R171) and POWER_ON (R172). -/

namespace Sys2Proof.Machine

open Sys2Proof.Slice0

/-! ### TEST_BEARER -/

theorem State.bearer_startTest (u : State) {t : TestContext} {b : BearerNo} (h : t.bearer = b) :
    ((u.startTest t).bearer b).state = .testing := by
  have hbearer : (u.startTest t).bearer b = ((u.leaveFreeList t.bearer).modBearer t.bearer fun r =>
      { r with state := .testing, downReason := none, holder := none }).bearer b := rfl
  rw [hbearer, State.bearer_modBearer, if_pos h.symm]

section

variable {u : State} {b : BearerNo} {duration threshold inject yields : Nat}

/-- R137: what TEST_BEARER answers where it refuses, the bearer's state with it. -/
def State.testRefused (u : State) (b : BearerNo) (r : Result) : State × Frame :=
  (u, reply 0x16 r [octet b.1, octet (u.bearer b).state.code])

theorem State.serveTestBearer_of_bad_target {v : Nat} (hv : 6 ≤ v) :
    u.serveTestBearer v duration threshold inject yields = (u, reply 0x16 .badTarget [octet v, 0xFF]) := by
  rw [State.serveTestBearer, bearerNo_of_le hv]

theorem State.serveTestBearer_of_bad_value (h : 2 ≤ inject ∨ 2 ≤ yields) :
    u.serveTestBearer b.1 duration threshold inject yields = u.testRefused b .badRecord := by
  simp only [State.serveTestBearer, bearerNo_val]
  obtain h | h := h
  · rw [yesOf_of_le h]
    rfl
  · rw [yesOf_of_le h]
    split
    · simp_all
    · rfl

variable (hinject : inject < 2) (hyields : yields < 2)
include hinject hyields

theorem State.serveTestBearer_of_running (h : u.test ≠ none) :
    u.serveTestBearer b.1 duration threshold inject yields = u.testRefused b .busy := by
  simp only [State.serveTestBearer, bearerNo_val, yesOf_of_lt hinject, yesOf_of_lt hyields,
    if_pos (Option.isSome_iff_ne_none.2 h)]
  rfl

theorem State.serveTestBearer_of_state (h : u.test = none) {r : Result} (hr : testRefusal (u.bearer b).state = some r) :
    u.serveTestBearer b.1 duration threshold inject yields = u.testRefused b r := by
  simp only [State.serveTestBearer, bearerNo_val, yesOf_of_lt hinject, yesOf_of_lt hyields, h, Option.isSome_none,
    Bool.false_eq_true, if_false, hr]
  rfl

/-- R137: the test starts, and the reply shows the bearer TESTING. -/
theorem State.serveTestBearer_of_free (h : u.test = none) (hfree : (u.bearer b).state = .free) :
    u.serveTestBearer b.1 duration threshold inject yields =
      (u.startTest (.started b (max 1 (min 60 duration)) threshold (decide (inject = 1)) (decide (yields = 1)) u.now),
       reply 0x16 .ok [octet b.1, 3, octet (max 1 (min 60 duration)), octet threshold, octet inject, octet yields]) := by
  have htesting (d : Nat) (i y : Bool) : ((u.startTest (.started b d threshold i y u.now)).bearer b).state = .testing :=
    State.bearer_startTest u rfl
  simp only [State.serveTestBearer, bearerNo_val, yesOf_of_lt hinject, yesOf_of_lt hyields, h, Option.isSome_none,
    Bool.false_eq_true, if_false, hfree, testRefusal]
  rw [htesting, yesNo_one hinject, yesNo_one hyields]
  rfl

end

theorem exec_testBearer_of_refused {s : State} (hroom : s.sli.replies.length < 4) {b : BearerNo}
    {duration threshold inject yields : Nat} {r : Result} {code : Octet} (hcode : octet r.code = code)
    (h : (arrived s).serveTestBearer b.1 duration threshold inject yields = (arrived s).testRefused b r) :
    exec (.testBearer b.1 duration threshold inject yields) s =
      .next (replied (arrived s) 0x96 [code, octet b.1, octet ((arrived s).bearer b).state.code]) := by
  refine exec_request_of_serve (r := .testBearer b.1 duration threshold inject yields) rfl hroom ?_
  rw [← hcode]
  exact h

/-- Settles O21: the checks in order, then the bearer lent and the test as it starts. -/
theorem testBearerChecksThenStarts : Obligations.TestBearerChecksThenStarts := by
  unfold Obligations.TestBearerChecksThenStarts
  intro s duration threshold inject yields hroom
  have hnow : (arrived s).now = s.now := by simp [arrived, State.frameTaken]
  refine ⟨fun v hv => ?_, fun b => ⟨fun hbad => ?_, fun hinject hyields =>
    ⟨fun htest => ?_, fun htest => ⟨fun hstate => ?_, fun hstate => ?_, fun hfree => ?_⟩⟩⟩⟩
  · exact exec_request_of_serve (r := .testBearer v duration threshold inject yields) rfl hroom
      (State.serveTestBearer_of_bad_target hv)
  · exact exec_testBearer_of_refused hroom rfl (State.serveTestBearer_of_bad_value hbad)
  · exact exec_testBearer_of_refused hroom rfl (State.serveTestBearer_of_running hinject hyields htest)
  · refine exec_testBearer_of_refused hroom rfl (State.serveTestBearer_of_state hinject hyields htest (r := .busy) ?_)
    obtain h | h | h := hstate
    · rw [h]; rfl
    · rw [h]; rfl
    · rw [h]; rfl
  · refine exec_testBearer_of_refused hroom rfl
      (State.serveTestBearer_of_state hinject hyields htest (r := .wrongState) ?_)
    obtain h | h := hstate
    · rw [h]; rfl
    · rw [h]; rfl
  · rw [← hnow]
    exact exec_request_of_serve (r := .testBearer b.1 duration threshold inject yields) rfl hroom
      (State.serveTestBearer_of_free hinject hyields htest hfree)

/-! ### SET_TIMERS -/

/-- R2: the largest of the three sample periods that the request reaches. -/
theorem clampSample_eq (v : Nat) : clampSample v = if v < 4 then 2 else if v < 8 then 4 else 8 := by
  unfold clampSample
  split_ifs
  all_goals omega

theorem State.setPeriods_of_same {u : State} {p : Periods} (h : p.supervision = u.periods.supervision) :
    u.setPeriods p = { u with periods := p } :=
  if_neg fun hchanged => hchanged.1 h

theorem State.setPeriods_of_changed {u : State} {p : Periods} (h : p.supervision ≠ u.periods.supervision)
    (hpresent : u.sli.controller = .present) :
    u.setPeriods p = { u with
      periods := p
      sli := { u.sli with
        supervision := if p.supervision = 0 then none else some (u.now + 1000 * p.supervision) } } :=
  if_pos ⟨h, hpresent⟩

/-- R153: a frame that counts leaves the controller PRESENT, whatever the frame has met besides. -/
theorem State.countFrame_controller (s : State) : s.countFrame.sli.controller = .present := by
  unfold State.countFrame
  cases hc : s.sli.controller with
  | present => exact hc
  | lost => rfl

theorem arrived_controller (s : State) : (arrived s).sli.controller = .present := by
  unfold arrived State.frameArrives
  split
  · exact State.countFrame_controller _
  · have hmeet (w : State) (n : LineNo) : (w.meetOff n).sli.controller = w.sli.controller := by
      unfold State.meetOff
      split
      · simp
      · rfl
    rw [State.meetOffs, foldl_keeps (fun w => w.sli.controller) State.meetOff hmeet]
    exact State.countFrame_controller _

theorem exec_setTimers_of_set {s t : State} (hroom : s.sli.replies.length < 4)
    {sample first inter wait clear supervision : Nat} {p : Periods}
    (hp : periodsOf sample first inter wait clear supervision = p) (ht : (arrived s).setPeriods p = t) :
    exec (.setTimers sample first inter wait clear supervision) s = .next (replied t 0x99 (0 :: periodOctets p)) := by
  refine exec_request_of_serve (r := .setTimers sample first inter wait clear supervision) rfl hroom ?_
  simp only [Request.serve, State.serveSetTimers, hp, ht]
  rfl

/-- Settles O24: the six clamps, and the supervision timer of the controller that the frame has made PRESENT. -/
theorem setTimersClampsAndWritesPeriods : Obligations.SetTimersClampsAndWritesPeriods := by
  unfold Obligations.SetTimersClampsAndWritesPeriods
  intro s sample first inter wait clear supervision hroom u p body
  have hnow : u.now = s.now := by simp [u, arrived, State.frameTaken]
  have hp : periodsOf sample first inter wait clear supervision = p := by
    rw [periodsOf, clampSample_eq]
    rfl
  refine ⟨fun hsame => ?_, fun hchanged => ?_⟩
  · exact exec_setTimers_of_set hroom hp (State.setPeriods_of_same hsame)
  · rw [← hnow]
    exact exec_setTimers_of_set hroom hp (State.setPeriods_of_changed hchanged (arrived_controller s))

/-! ### RESTART and POWER_ON -/

/-- R111: with nothing on the roll and no alert, an ACTIVE part commits its base. -/
theorem State.committed_of_idle {s : State} (hmode : s.mode.mode = .active) (hroll : s.power.roll = [])
    (halerts : ∀ p, s.alertAt p = none) : s.committed = 20 := by
  have hload (p : PhaseNo) : s.phaseLoad p = 0 := by simp [State.phaseLoad, halerts, alertLoad]
  have hreserve : s.answerReserve = 0 := by simp [State.answerReserve, halerts, isOutstanding]
  have hbase : s.baseCost = 20 := by
    rw [State.baseCost, hmode]
    rfl
  have hfeed : s.feedCost = 0 := by
    rw [State.feedCost, hroll]
    rfl
  have hring : s.ringReserve = 0 := by simp [State.ringReserve, largest, hload]
  rw [State.committed, hbase, hfeed, hring, hreserve]

theorem Straps.energizeList_eq_nil_iff (p : Straps) : p.energizeList = [] ↔ p.stagger = true := by
  unfold Straps.energizeList
  cases p.stagger with
  | true => simp
  | false => simp [allLines]

/-- R15, R16: the group timer runs unless the STAGGER strap has kept the energize list empty. -/
theorem Scanner.started_groupTimer (p : Straps) (now lastSample : Nat) (loops : Vector Hook 24) :
    (Scanner.started p now lastSample loops).groupTimer = if p.stagger then none else some (now + 250) := by
  simp only [Scanner.started, Straps.energizeList_eq_nil_iff, Config.groupMs]

/-- R162: an OFF transition that a frame meets leaves the sample instants and the loop detectors as they are. -/
theorem State.frameArrives_loops (s : State) :
    s.frameArrives.scanner.lastSample = s.scanner.lastSample ∧ s.frameArrives.scanner.loops = s.scanner.loops := by
  have hmeet (w : State) (n : LineNo) : (w.meetOff n).scanner.lastSample = w.scanner.lastSample ∧
      (w.meetOff n).scanner.loops = w.scanner.loops := by
    unfold State.meetOff
    split
    · simp [State.unhand]
    · exact ⟨rfl, rfl⟩
  unfold State.frameArrives
  split
  · simp
  · rw [State.meetOffs]
    constructor
    · rw [foldl_keeps (fun w => w.scanner.lastSample) State.meetOff fun w n => (hmeet w n).1]
      simp
    · rw [foldl_keeps (fun w => w.scanner.loops) State.meetOff fun w n => (hmeet w n).2]
      simp

/-- What a frame's arrival leaves for RESTART to keep. -/
theorem arrived_keeps_configuration (s : State) :
    (arrived s).pending = s.pending ∧ (arrived s).now = s.now ∧ (arrived s).straps = s.straps ∧
      (arrived s).periods = s.periods ∧ (arrived s).pool = s.pool ∧ (arrived s).ring.capacity = s.ring.capacity ∧
      (arrived s).power.budget = s.power.budget ∧ (arrived s).collector.plan = s.collector.plan ∧
      (arrived s).tones.cadences = s.tones.cadences ∧ (arrived s).sli.sending = s.sli.sending ∧
      (arrived s).sli.hunter = .hunting ∧ settingsOf (arrived s).lines = settingsOf s.lines := by
  simp [arrived, State.frameTaken]

theorem exec_restart_of_room {s : State} (hroom : s.sli.replies.length < 4) :
    exec .restart s = .next (replied (arrived s).restart 0x9F [0]) :=
  exec_request_of_serve (r := .restart) rfl hroom rfl

theorem State.line_restart_eq {s u : State} (h : settingsOf u.lines = settingsOf s.lines) (n : LineNo) :
    u.restart.line n =
      { callState := .deenergized, feed := .none, signalling := (s.line n).signalling
        ringerLoad := (s.line n).ringerLoad, alertGroup := (s.line n).alertGroup, ceiling := (s.line n).ceiling
        restricted := (s.line n).restricted, callNumber := 0, digits := [], planMatch := none, bearer := none
        alert := none, receiver := none, tone := none, flashCount := 0, events := [], timer := none } := by
  have hsettings := settings_line h n
  simp only [LineRecord.settings, Prod.mk.injEq] at hsettings
  obtain ⟨hsignalling, hload, hgroup, hceiling, hrestricted⟩ := hsettings
  rw [State.line_restart, LineRecord.restarted, hsignalling, hload, hgroup, hceiling, hrestricted]
  rfl

theorem BearerRecord.restarted_eq (r : BearerRecord) : r.restarted =
    { state := if r.state = .blocked then .blocked else .down
      downReason := if r.state = .blocked then none else some .highway
      holder := none, blockPending := false, outcome := .none, abortCause := none, errorCount := 0, locked := false
      events := [] } := by
  unfold BearerRecord.restarted
  split_ifs
  · rfl
  · rfl

theorem restartEvents_restarted (p : Power) :
    restartEvents p.restarted = if p.budget < 20 then [.started, .overcommitSet] else [.started] := by
  by_cases h : p.budget < 20
  · rw [if_pos h]
    exact if_pos (decide_eq_true h)
  · rw [if_neg h]
    exact if_neg (Bool.not_eq_true _ ▸ decide_eq_false h)

/-- Settles O28: RESTART is served in the state that its frame has left, which keeps all configuration. -/
theorem restartResetsAndKeepsConfiguration : Obligations.RestartResetsAndKeepsConfiguration := by
  unfold Obligations.RestartResetsAndKeepsConfiguration
  intro s hroom
  obtain ⟨hpending, hnow, hstraps, hperiods, hpool, hcapacity, hbudget, hplan, hcadences, hsending, hhunter, hsettings⟩ :=
    arrived_keeps_configuration s
  obtain ⟨hlast, hloops⟩ := State.frameArrives_loops s.frameTaken
  refine ⟨_, exec_restart_of_room hroom, rfl, hsending, rfl, rfl, rfl, rfl, hhunter, ?_, ?_, ?_, ?_,
    State.line_restart_eq hsettings, (arrived s).scan_restart, ?_, ?_, ?_, rfl, rfl, fun b => ?_, ?_, rfl, rfl, rfl,
    rfl, rfl, hperiods, hstraps, hnow, hlast, hloops, rfl, rfl, hpending⟩
  · rw [← hbudget]
    exact restartEvents_restarted _
  · rw [← hbudget]
    rfl
  · exact State.committed_of_idle rfl rfl (arrived s).alertAt_restart
  · rw [← hcapacity]
    rfl
  · rw [← hstraps]
    rfl
  · rw [← hstraps, ← hnow]
    exact Scanner.started_groupTimer _ _ _ _
  · rw [← hplan]
    rfl
  · exact ((arrived s).bearer_restart b).trans (by rw [BearerRecord.restarted_eq, State.bearer, hpool]; rfl)
  · rw [← hcadences]
    rfl

/-- Settles O4: the power-on columns, read field by field. -/
theorem powerOnPutsEveryBlockInItsPowerOnState : Obligations.PowerOnPutsEveryBlockInItsPowerOnState := by
  unfold Obligations.PowerOnPutsEveryBlockInItsPowerOnState
  intro stagger rate unit s
  let p : Straps := { stagger := stagger, rate := rate, unit := unit }
  have htimer : (State.atPowerOn p).scanner.groupTimer = if stagger then none else some (0 + 250) :=
    Scanner.started_groupTimer p 0 0 loopsAtPowerOn
  have hcommitted : (State.atPowerOn p).committed = 20 := State.committed_of_idle rfl rfl (State.alertAt_atPowerOn p)
  exact ⟨_, rfl, rfl, rfl, rfl, rfl, rfl, rfl, rfl, hcommitted, rfl, rfl, rfl, rfl, State.alertAt_atPowerOn p, rfl, rfl,
    State.bearer_atPowerOn p, State.line_atPowerOn p, State.scan_atPowerOn p, rfl, htimer, rfl, rfl,
    State.receiverLine_atPowerOn p, rfl, rfl, rfl, rfl, Tones.source_initial, rfl, rfl, rfl, rfl, rfl, rfl, rfl, rfl, rfl⟩

end Sys2Proof.Machine

/-! PROOF. The transmitter (R86, R89, R109, R168, R170): what it chooses, and what each command begins. -/

namespace Sys2Proof.Machine

open Sys2Proof.Slice0

/-! ### The choice -/

theorem State.flaggedAlert_of_first {s : State} {p : AlertPos} {a : AlertRecord} (ha : s.alertAt p = some a)
    (hflag : a.reportPending = true) (hfirst : ∀ q b, q < p → s.alertAt q = some b → b.reportPending = false) :
    s.flaggedAlert = some p := by
  refine find?_finRange_of_first (by rw [ha]; exact hflag) fun q hq => ?_
  cases hb : s.alertAt q with
  | none => rfl
  | some b => exact hfirst q b hq hb

theorem State.flaggedAlert_eq_none {s : State} (h : ∀ p a, s.alertAt p = some a → a.reportPending = false) :
    s.flaggedAlert = none := by
  refine find?_finRange_eq_none fun p => ?_
  cases ha : s.alertAt p with
  | none => rfl
  | some a => exact h p a ha

theorem State.exists_flaggedAlert {s : State} (h : ∃ p a, s.alertAt p = some a ∧ a.reportPending = true) :
    ∃ p, s.flaggedAlert = some p := by
  obtain ⟨p, a, ha, hflag⟩ := h
  exact exists_find?_finRange ⟨p, by rw [ha]; exact hflag⟩

theorem State.eventfulBearer_of_first {s : State} {b : BearerNo} (hb : (s.bearer b).events ≠ [])
    (hfirst : ∀ c, c < b → (s.bearer c).events = []) : s.eventfulBearer = some b :=
  find?_finRange_of_first (decide_eq_true hb) fun c hc => by simp [hfirst c hc]

theorem State.eventfulBearer_eq_none {s : State} (h : ∀ b, (s.bearer b).events = []) : s.eventfulBearer = none :=
  find?_finRange_eq_none fun b => by simp [h b]

theorem State.exists_eventfulBearer {s : State} (h : ∃ b, (s.bearer b).events ≠ []) : ∃ b, s.eventfulBearer = some b := by
  obtain ⟨b, hb⟩ := h
  exact exists_find?_finRange ⟨b, decide_eq_true hb⟩

/-- R168: the line in turn is found by its distance from the line report position. -/
theorem State.eventfulLine_eq (s : State) :
    s.eventfulLine = (allLines.find? fun k => decide ((s.line (s.sli.reportPosition + 1 + k)).events ≠ [])).map
      fun k => s.sli.reportPosition + 1 + k := by
  rw [State.eventfulLine, State.linesInTurn, List.find?_map]
  rfl

theorem State.eventfulLine_of_first {s : State} {k : LineNo}
    (hk : (s.line (s.sli.reportPosition + 1 + k)).events ≠ [])
    (hfirst : ∀ j, j < k → (s.line (s.sli.reportPosition + 1 + j)).events = []) :
    s.eventfulLine = some (s.sli.reportPosition + 1 + k) := by
  have hfind : (allLines.find? fun k => decide ((s.line (s.sli.reportPosition + 1 + k)).events ≠ [])) = some k :=
    find?_finRange_of_first (decide_eq_true hk) fun j hj => by simp [hfirst j hj]
  rw [State.eventfulLine_eq, hfind, Option.map_some]

theorem State.eventfulLine_eq_none {s : State} (h : ∀ n, (s.line n).events = []) : s.eventfulLine = none := by
  rw [State.eventfulLine, List.find?_eq_none]
  intro n _
  simp [h n]

theorem State.exists_eventfulLine {s : State} (h : ∃ n, (s.line n).events ≠ []) : ∃ n, s.eventfulLine = some n := by
  obtain ⟨n, hn⟩ := h
  have hturn : n ∈ s.linesInTurn :=
    List.mem_map.2 ⟨n - (s.sli.reportPosition + 1), List.mem_finRange _, by simp⟩
  exact Option.isSome_iff_exists.1 (List.find?_isSome.2 ⟨n, hturn, decide_eq_true hn⟩)

theorem State.choice_of_reply {s : State} (h : s.sli.replies ≠ []) : s.choice = some .reply :=
  if_pos h

section

variable {s : State} (hreplies : s.sli.replies = [])
include hreplies

theorem State.choice_of_part (h : s.sli.events ≠ []) : s.choice = some .part := by
  rw [State.choice, if_neg (not_not_intro hreplies), if_pos h]

variable (hevents : s.sli.events = [])
include hevents

theorem State.choice_of_quiet_part : s.choice =
    match s.flaggedAlert with
    | some p => some (.alert p)
    | none =>
      match s.eventfulBearer with
      | some b => some (.bearer b)
      | none => s.eventfulLine.map .line :=
  (if_neg (not_not_intro hreplies)).trans (if_neg (not_not_intro hevents))

theorem State.choice_of_alert {p : AlertPos} (h : s.flaggedAlert = some p) : s.choice = some (.alert p) := by
  rw [State.choice_of_quiet_part hreplies hevents, h]

variable (halert : s.flaggedAlert = none)
include halert

theorem State.choice_of_bearer {b : BearerNo} (h : s.eventfulBearer = some b) : s.choice = some (.bearer b) := by
  rw [State.choice_of_quiet_part hreplies hevents, halert, h]

theorem State.choice_of_no_bearer (h : s.eventfulBearer = none) : s.choice = s.eventfulLine.map .line := by
  rw [State.choice_of_quiet_part hreplies hevents, halert, h]

end

/-! ### The commands -/

theorem State.mayBegin_iff (s : State) (c : Choice) : s.mayBegin c = true ↔ s.sli.sending = none ∧ s.choice = some c :=
  decide_eq_true_iff

theorem State.mayBegin_of_sending {s : State} (h : s.sli.sending ≠ none) (c : Choice) : s.mayBegin c = false :=
  decide_eq_false fun hc => h hc.1

section

variable {s : State} (hidle : s.sli.sending = none)
include hidle

theorem exec_replyTransmit_of_choice (h : s.choice = some .reply) : exec .replyTransmit s = .next s.beginReply :=
  congrArg Host.Outcome.next (if_pos ((s.mayBegin_iff _).2 ⟨hidle, h⟩))

theorem exec_partReport_of_choice (h : s.choice = some .part) : exec .partReport s = .next s.beginPartReport :=
  congrArg Host.Outcome.next (if_pos ((s.mayBegin_iff _).2 ⟨hidle, h⟩))

theorem exec_alertReport_of_choice {p : AlertPos} (hflagged : s.flaggedAlert = some p) (h : s.choice = some (.alert p)) :
    exec .alertReport s = .next (s.beginAlertReport p) := by
  show execAlertReport s = _
  simp only [execAlertReport, hflagged, if_pos ((s.mayBegin_iff _).2 ⟨hidle, h⟩)]

theorem exec_bearerReport_of_choice {b : BearerNo} (heventful : s.eventfulBearer = some b)
    (h : s.choice = some (.bearer b)) : exec .bearerReport s = .next (s.beginBearerReport b) := by
  show execBearerReport s = _
  simp only [execBearerReport, heventful, if_pos ((s.mayBegin_iff _).2 ⟨hidle, h⟩)]

theorem exec_lineReport_of_choice {n : LineNo} (heventful : s.eventfulLine = some n) (h : s.choice = some (.line n)) :
    exec .lineReport s = .next (s.beginLineReport n) := by
  show execLineReport s = _
  simp only [execLineReport, heventful, if_pos ((s.mayBegin_iff _).2 ⟨hidle, h⟩)]

end

theorem exec_replyTransmit_of_not_choice {s : State} (h : s.choice ≠ some .reply) : exec .replyTransmit s = .next s :=
  congrArg Host.Outcome.next (if_neg fun hmay => h ((s.mayBegin_iff _).1 hmay).2)

theorem exec_partReport_of_not_choice {s : State} (h : s.choice ≠ some .part) : exec .partReport s = .next s :=
  congrArg Host.Outcome.next (if_neg fun hmay => h ((s.mayBegin_iff _).1 hmay).2)

theorem exec_alertReport_of_none {s : State} (h : s.flaggedAlert = none) : exec .alertReport s = .next s := by
  show execAlertReport s = _
  rw [execAlertReport, h]

theorem exec_bearerReport_of_none {s : State} (h : s.eventfulBearer = none) : exec .bearerReport s = .next s := by
  show execBearerReport s = _
  rw [execBearerReport, h]

theorem exec_lineReport_of_none {s : State} (h : s.eventfulLine = none) : exec .lineReport s = .next s := by
  show execLineReport s = _
  rw [execLineReport, h]

/-- R168: while a frame is in transmission no command begins another. -/
theorem exec_report_of_sending {s : State} (h : s.sli.sending ≠ none) :
    exec .replyTransmit s = .next s ∧ exec .partReport s = .next s ∧ exec .alertReport s = .next s ∧
      exec .bearerReport s = .next s ∧ exec .lineReport s = .next s := by
  refine ⟨congrArg Host.Outcome.next (if_neg ?_), congrArg Host.Outcome.next (if_neg ?_), ?_, ?_, ?_⟩
  · simp [State.mayBegin_of_sending h]
  · simp [State.mayBegin_of_sending h]
  · show execAlertReport s = _
    unfold execAlertReport
    split
    · simp [State.mayBegin_of_sending h]
    · rfl
  · show execBearerReport s = _
    unfold execBearerReport
    split
    · simp [State.mayBegin_of_sending h]
    · rfl
  · show execLineReport s = _
    unfold execLineReport
    split
    · simp [State.mayBegin_of_sending h]
    · rfl

/-! ### The obligations -/

theorem State.beginReply_of_cons {s : State} {f : Frame} {rest : List Frame} (h : s.sli.replies = f :: rest) :
    s.beginReply = sending { s with sli := { s.sli with replies := rest } } f := by
  rw [State.beginReply, h]
  rfl

theorem State.choice_ne_part {s : State} (h : s.sli.replies ≠ [] ∨ s.sli.events = []) : s.choice ≠ some .part := by
  by_cases hreplies : s.sli.replies = []
  · rw [State.choice_of_quiet_part hreplies (h.resolve_left (not_not_intro hreplies))]
    split
    · simp
    · split
      · simp
      · cases s.eventfulLine <;> simp
  · rw [State.choice_of_reply hreplies]
    simp

theorem State.choice_ne_reply {s : State} (h : s.sli.replies = []) : s.choice ≠ some .reply := by
  by_cases hevents : s.sli.events = []
  · rw [State.choice_of_quiet_part h hevents]
    split
    · simp
    · split
      · simp
      · cases s.eventfulLine <;> simp
  · rw [State.choice_of_part h hevents]
    simp

/-- Settles O29: the choice rule's first two items, and no beginning while a frame is sent. -/
theorem replyOrPartReportBegins : Obligations.ReplyOrPartReportBegins := by
  unfold Obligations.ReplyOrPartReportBegins
  intro s
  refine ⟨fun hidle => ⟨fun f rest hf => ?_, fun hnone => ?_, fun hreplies hevents => ?_, fun h => ?_⟩,
    exec_report_of_sending⟩
  · have hchoice : s.choice = some .reply := State.choice_of_reply (by simp [hf])
    rw [exec_replyTransmit_of_choice hidle hchoice, State.beginReply_of_cons hf]
  · exact exec_replyTransmit_of_not_choice (State.choice_ne_reply hnone)
  · exact exec_partReport_of_choice hidle (State.choice_of_part hreplies hevents)
  · exact exec_partReport_of_not_choice (State.choice_ne_part h)

/-- Table 11-8: the ALERT_REPORT, its members counted. -/
theorem alertReportFrame_eq (p : AlertPos) (a : AlertRecord) : alertReportFrame p a =
    { type := 0x44
      body := [octet a.number, octet p.1, octet a.target.kindCode, octet a.target.number, octet a.cadence.1,
        octet a.load, octet a.state.code, orAbsent (a.phase.map Fin.val), octet a.bearer.1,
        orAbsent (a.answering.map Fin.val), orAbsent (a.cause.map AlertCause.code), octet a.members.length]
        ++ a.members.map fun n => octet n.1 } := by
  rw [alertReportFrame, lineList, counted_octets]
  rfl

/-- Settles O30: the lowest flagged position is the choice; its record keeps its place only while outstanding. -/
theorem alertReportBegins : Obligations.AlertReportBegins := by
  unfold Obligations.AlertReportBegins
  intro s hidle hreplies hevents
  refine ⟨fun p a ha hflag hfirst => ?_, fun hnone => exec_alertReport_of_none (State.flaggedAlert_eq_none hnone)⟩
  have hflagged : s.flaggedAlert = some p := State.flaggedAlert_of_first ha hflag hfirst
  have hbegins : exec .alertReport s = .next (s.beginAlertReport p) :=
    exec_alertReport_of_choice hidle hflagged (State.choice_of_alert hreplies hevents hflagged)
  rw [hbegins]
  simp only [State.beginAlertReport, ha, alertReportFrame_eq]
  refine ⟨fun hout => ?_, fun hq hp => ?_⟩
  · rw [if_pos (a.state.outstanding_iff.2 hout)]
    rfl
  · rw [if_neg (by simp [a.state.outstanding_eq_false_iff.2 ⟨hq, hp⟩])]
    rfl

/-- Settles O31: the last two items of the choice rule, each when nothing goes before it. -/
theorem bearerOrLineReportBegins : Obligations.BearerOrLineReportBegins := by
  unfold Obligations.BearerOrLineReportBegins
  intro s hidle hreplies hevents hflags
  have hflagged : s.flaggedAlert = none := State.flaggedAlert_eq_none hflags
  refine ⟨fun b hb hfirst => ?_, fun hbearers => ⟨?_, fun k hk hfirst => ?_, fun hlines => ?_⟩⟩
  · have heventful : s.eventfulBearer = some b := State.eventfulBearer_of_first hb hfirst
    exact exec_bearerReport_of_choice hidle heventful (State.choice_of_bearer hreplies hevents hflagged heventful)
  · exact exec_bearerReport_of_none (State.eventfulBearer_eq_none hbearers)
  · have heventful := State.eventfulLine_of_first hk hfirst
    have hchoice := State.choice_of_no_bearer hreplies hevents hflagged (State.eventfulBearer_eq_none hbearers)
    rw [heventful, Option.map_some] at hchoice
    exact exec_lineReport_of_choice hidle heventful hchoice
  · exact exec_lineReport_of_none (State.eventfulLine_eq_none hlines)

/-- R168: the transmitter of a frame that ends is IDLE and begins its choice. -/
theorem exec_frameSent_of_sending {s t : State} (h : s.sli.sending ≠ none)
    (ht : t = { s with sli := { s.sli with sending := none } }) : exec .frameSent s = .next (t.begin t.choice) := by
  obtain ⟨f, hf⟩ := Option.ne_none_iff_exists'.1 h
  show Host.Outcome.next s.endFrame = _
  rw [State.endFrame, hf, ht]

/-- Settles O32: what the transmitter begins is what the command of its choice begins. -/
theorem frameSentChoosesAgain : Obligations.FrameSentChoosesAgain := by
  unfold Obligations.FrameSentChoosesAgain
  intro s
  refine ⟨fun hidle => ?_, fun hsending => ?_⟩
  · show Host.Outcome.next s.endFrame = _
    rw [State.endFrame, hidle]
  intro t
  have hidle : t.sli.sending = none := rfl
  rw [exec_frameSent_of_sending hsending (t := t) rfl]
  refine ⟨fun hreplies => ?_, fun hreplies hevents => ?_, fun hreplies hevents => ⟨fun hflags => ?_, fun hflags => ?_⟩⟩
  · have hchoice := State.choice_of_reply hreplies
    rw [hchoice, exec_replyTransmit_of_choice hidle hchoice]
    rfl
  · have hchoice := State.choice_of_part hreplies hevents
    rw [hchoice, exec_partReport_of_choice hidle hchoice]
    rfl
  · obtain ⟨p, hp⟩ := State.exists_flaggedAlert hflags
    have hchoice := State.choice_of_alert hreplies hevents hp
    rw [hchoice, exec_alertReport_of_choice hidle hp hchoice]
    rfl
  have hflagged : t.flaggedAlert = none := State.flaggedAlert_eq_none hflags
  refine ⟨fun hbearer => ?_, fun hbearers hline => ?_, fun hbearers hlines => ?_⟩
  · obtain ⟨b, hb⟩ := State.exists_eventfulBearer hbearer
    have hchoice := State.choice_of_bearer hreplies hevents hflagged hb
    rw [hchoice, exec_bearerReport_of_choice hidle hb hchoice]
    rfl
  · obtain ⟨n, hn⟩ := State.exists_eventfulLine hline
    have hchoice := State.choice_of_no_bearer hreplies hevents hflagged (State.eventfulBearer_eq_none hbearers)
    rw [hn, Option.map_some] at hchoice
    rw [hchoice, exec_lineReport_of_choice hidle hn hchoice]
    rfl
  · rw [State.choice_of_no_bearer hreplies hevents hflagged (State.eventfulBearer_eq_none hbearers),
      State.eventfulLine_eq_none hlines]
    rfl

end Sys2Proof.Machine

/-! PROOF. The samples of a line and the run they make (R2, R3, R9, R12), and the ON transition (R6, R14). -/

namespace Sys2Proof.Machine

open Sys2Proof.Slice0

/-! ### A sample instant and the loop shown at it -/

theorem State.beginInstant_eq_atInstant (s : State) : s.beginInstant = atInstant s := by
  unfold State.beginInstant atInstant State.nextSample State.samplePeriod
  rfl

theorem atInstant_frame (s : State) :
    ∃ last unsampled, atInstant s =
      { s with scanner := { s.scanner with lastSample := last, unsampled := unsampled } } := by
  rw [← State.beginInstant_eq_atInstant]
  unfold State.beginInstant
  split
  · exact ⟨_, _, rfl⟩
  · exact ⟨s.scanner.lastSample, s.scanner.unsampled, rfl⟩

/-- The state in which a line is debounced: its loop shown, and no longer among those to be sampled (R2). -/
def State.sampling (s : State) (n : LineNo) (h : Hook) : State :=
  let u := showing (atInstant s) n h
  { u with scanner := { u.scanner with unsampled := u.scanner.unsampled.erase n } }

/-- Being sampled changes the sample instants and the loops alone. -/
theorem State.sampling_frame (s : State) (n : LineNo) (h : Hook) :
    ∃ last unsampled loops, s.sampling n h =
      { s with scanner := { s.scanner with lastSample := last, unsampled := unsampled, loops := loops } } := by
  obtain ⟨last, unsampled, h⟩ := atInstant_frame s
  rw [State.sampling, h]
  exact ⟨_, _, _, rfl⟩

theorem State.sampling_keeps (s : State) (n : LineNo) (h : Hook) :
    (∀ m, (s.sampling n h).line m = s.line m) ∧ (∀ m, (s.sampling n h).scan m = s.scan m) ∧
      (s.sampling n h).mode = s.mode ∧ (s.sampling n h).now = s.now ∧ (s.sampling n h).periods = s.periods ∧
      (s.sampling n h).scanner.handed = s.scanner.handed := by
  obtain ⟨last, unsampled, loops, h⟩ := s.sampling_frame n h
  rw [h]
  exact ⟨fun _ => rfl, fun _ => rfl, rfl, rfl, rfl, rfl⟩

theorem exec_sampleInstant_of_sampled {s : State} {n : LineNo} {h : Hook}
    (hmem : n ∈ (showing (atInstant s) n h).scanner.unsampled) :
    exec (.sampleInstant n h) s = .next ((s.sampling n h).debounce n h) := by
  show Host.Outcome.next (s.sample n h) = _
  rw [State.sample, State.beginInstant_eq_atInstant]
  exact congrArg Host.Outcome.next (if_pos hmem)

theorem exec_sampleInstant_of_shown {s : State} {n : LineNo} {h : Hook}
    (hmem : n ∉ (showing (atInstant s) n h).scanner.unsampled) :
    exec (.sampleInstant n h) s = .next (showing (atInstant s) n h) := by
  show Host.Outcome.next (s.sample n h) = _
  rw [State.sample, State.beginInstant_eq_atInstant]
  exact congrArg Host.Outcome.next (if_neg hmem)

/-! ### The debounce -/

section

variable {t : State} {n : LineNo} {h : Hook}

theorem State.debounce_of_deenergized (hc : (t.line n).callState = .deenergized) : t.debounce n h = t :=
  if_pos hc

variable (hc : (t.line n).callState ≠ .deenergized)
include hc

theorem State.debounce_of_agreeing (hh : (t.scan n).hook = h) :
    t.debounce n h = if (t.scan n).runCount = 0 then t else t.runFails n := by
  unfold State.debounce
  rw [if_neg hc, if_pos hh]

theorem State.debounce_of_first (hh : (t.scan n).hook ≠ h) (hk : (t.scan n).runCount = 0) :
    t.debounce n h = t.modScan n fun r => { r with runCount := 1, runStart := some t.now } := by
  unfold State.debounce
  rw [if_neg hc, if_neg hh, if_pos hk]

theorem State.debounce_of_second (hh : (t.scan n).hook ≠ h) (hk : (t.scan n).runCount = 1) :
    t.debounce n h = t.modScan n fun r => { r with runCount := 2 } := by
  unfold State.debounce
  rw [if_neg hc, if_neg hh, if_neg (by omega), if_pos hk]

theorem State.debounce_of_third_on (hh : (t.scan n).hook ≠ .on) (hk : 2 ≤ (t.scan n).runCount) :
    t.debounce n .on = t.onTransition n := by
  unfold State.debounce
  rw [if_neg hc, if_neg hh, if_neg (by omega), if_neg (by omega)]

theorem State.debounce_of_third_off (hh : (t.scan n).hook ≠ .off) (hk : 2 ≤ (t.scan n).runCount) :
    t.debounce n .off = t.declareOff n := by
  unfold State.debounce
  rw [if_neg hc, if_neg hh, if_neg (by omega), if_neg (by omega)]

end

/-! ### The OFF transition that a sample declares -/

theorem State.transitionTime_of_dated {s : State} {n : LineNo} {t : Nat} (h : dated s n t) : s.transitionTime n = t := by
  unfold State.transitionTime
  obtain h | ⟨h, rfl⟩ := h
  · rw [h]
  · rw [h]

/-- R3: the date of a transition is read from the scanner's record, the clock and the period in force. -/
theorem dated_congr {s u : State} {n : LineNo} {t : Nat} (hscan : u.scan n = s.scan n) (hmode : u.mode = s.mode)
    (hperiods : u.periods = s.periods) (hnow : u.now = s.now) (h : dated s n t) : dated u n t := by
  unfold dated State.samplePeriod at *
  rwa [hscan, hmode, hperiods, hnow]

theorem State.signalOf_of_answer {t : State} {n : LineNo} {k : Nat} (hmode : t.mode.mode = .active)
    (hc : (t.line n).callState = .alerted) (hk : (t.line n).alert = some k) : t.signalOf n = some (.answer n k) := by
  rw [State.signalOf, hmode, hc, hk]
  rfl

theorem State.signalOf_of_wake {t : State} {n : LineNo} (hmode : t.mode.mode = .conserve)
    (hc : (t.line n).callState = .idle) : t.signalOf n = some (.off n) := by
  rw [State.signalOf, hmode, hc]

theorem State.signalOf_of_none {t : State} {n : LineNo}
    (hactive : t.mode.mode = .active → (t.line n).callState = .alerted → (t.line n).alert = none)
    (hconserve : t.mode.mode = .conserve → (t.line n).callState ≠ .idle) : t.signalOf n = none := by
  unfold State.signalOf
  split
  · rw [hactive ‹_› ‹_›]
    rfl
  · exact absurd ‹_› (hconserve ‹_›)
  · rfl

theorem State.declareOff_of_signal {t : State} {n : LineNo} {x : Handed} {d : Nat} (hd : dated t n d)
    (hx : t.signalOf n = some x) :
    t.declareOff n = { offAt t n d with scanner := { (offAt t n d).scanner with handed := t.scanner.handed ++ [x] } } := by
  rw [State.declareOff, hx, State.transitionTime_of_dated hd]
  rfl

theorem State.declareOff_of_no_signal {t : State} {n : LineNo} (hx : t.signalOf n = none) :
    t.declareOff n = t.offTransition n := by
  rw [State.declareOff, hx]

/-! ### A run that fails -/

/-- R3: a line whose run an agreeing sample has ended. -/
def State.runEnded (s : State) (n : LineNo) : State :=
  (showing s n (s.scan n).hook).modScan n fun r => { r with runCount := 0, runStart := none }

theorem State.scan_runEnded (s : State) (n : LineNo) :
    (s.runEnded n).scan n = { s.scan n with runCount := 0, runStart := none } := by
  rw [State.runEnded, State.scan_modScan, if_pos rfl]
  rfl

theorem State.releaseHeld_iff {s : State} {n : LineNo} (hook : (s.scan n).hook = .on) :
    s.releaseHeld n = true ↔ ∃ b r, (s.scan n).runStart = some b ∧ (s.scan n).releasePoint = some r ∧ b < r := by
  unfold State.releaseHeld
  dsimp only
  rw [hook]
  cases (s.scan n).runStart with
  | none => simp
  | some b => cases (s.scan n).releasePoint <;> simp [after]

theorem reached_iff {now : Nat} {m : Option Nat} : reached now m = true ↔ ∃ r, m = some r ∧ r ≤ now := by
  cases m <;> simp [reached]

section

variable {s : State} {n : LineNo}

theorem State.runFails_of_on (hook : (s.scan n).hook = .on) : s.runFails n =
    if s.releaseHeld n ∧ reached s.now (s.scan n).releasePoint ∧ (s.line n).callState.isRelease then
      (s.runEnded n).release n
    else s.runEnded n := by
  unfold State.runFails
  dsimp only
  rw [State.runEnded, hook]
  rfl

theorem State.runFails_of_off (hook : (s.scan n).hook = .off) : s.runFails n =
    if s.gapHeld n ∧ reached s.now (s.scan n).gapPoint then (s.runEnded n).closeTrain n else s.runEnded n := by
  unfold State.runFails
  dsimp only
  rw [State.runEnded, hook]
  rfl

/-- R12: with its run ended, nothing holds the release decision of an ON line. -/
theorem State.releasePoint_runEnded {r : Nat} (hook : (s.scan n).hook = .on) (hr : (s.scan n).releasePoint = some r)
    (hrelease : (s.line n).callState.isRelease = true) : (s.runEnded n).releasePoint n = (s.runEnded n).release n := by
  have hscan := s.scan_runEnded n
  have hline : (s.runEnded n).line n = s.line n := rfl
  have hheld : ¬ (s.runEnded n).releaseHeld n = true := by
    rw [State.releaseHeld_iff (by rw [hscan]; exact hook), hscan]
    simp
  rw [State.releasePoint, hscan, hline, if_neg (by simp [hr]), if_pos hrelease, if_neg hheld]

/-- R9: with its run ended, nothing holds the gap decision of an OFF line. -/
theorem State.gapPoint_runEnded {g : Nat} (hook : (s.scan n).hook = .off) (hg : (s.scan n).gapPoint = some g) :
    (s.runEnded n).gapPoint n = (s.runEnded n).closeTrain n := by
  have hscan := s.scan_runEnded n
  refine State.gapPoint_of_not_held (g := g) (by rw [hscan]; exact hg) ?_
  rw [State.gapHeld_iff (g := g) (by rw [hscan]; exact hg), hscan]
  simp [hook]

end

theorem exec_debounceRunFails (n : LineNo) (s : State) :
    exec (.debounceRunFails n) s = .next (if (s.scan n).runCount = 0 then s else s.runFails n) :=
  rfl

theorem exec_debounceRunFails_of_run {s : State} {n : LineNo} (h : (s.scan n).runCount ≠ 0) :
    exec (.debounceRunFails n) s = .next (s.runFails n) := by
  rw [exec_debounceRunFails, if_neg h]

/-- Settles O33: a line to be sampled is debounced by its record, and a run that fails leaves its decision to be taken. -/
theorem sampleInstantDebouncesTheLoop : Obligations.SampleInstantDebouncesTheLoop := by
  unfold Obligations.SampleInstantDebouncesTheLoop
  intro s n h u t ended
  obtain ⟨hline, hscan, hmode, hnow, hperiods, hhanded⟩ := s.sampling_keeps n h
  refine ⟨exec_sampleInstant_of_shown, fun hmem hde => ?_, fun hmem hen => ⟨fun hh hk => ?_, fun hh hk => ?_, fun hh =>
    ⟨fun hk => ?_, fun hk => ?_, fun hk hon => ?_, fun hk hoff => ?_⟩⟩, fun hk => ?_, fun hk => ⟨fun hook => ⟨?_, ?_⟩,
    fun hook => ⟨?_, ?_⟩⟩⟩
  · rw [exec_sampleInstant_of_sampled hmem, State.debounce_of_deenergized (by rw [hline, hde])]
    rfl
  · rw [exec_sampleInstant_of_sampled hmem, State.debounce_of_agreeing (by rwa [hline]) (by rw [hscan, hh]), hscan,
      if_pos hk]
    rfl
  · rw [exec_sampleInstant_of_sampled hmem, State.debounce_of_agreeing (by rwa [hline]) (by rw [hscan, hh])]
    rfl
  · rw [exec_sampleInstant_of_sampled hmem, State.debounce_of_first (by rwa [hline]) (by rwa [hscan]) (by rwa [hscan]),
      hnow]
    rfl
  · rw [exec_sampleInstant_of_sampled hmem, State.debounce_of_second (by rwa [hline]) (by rwa [hscan]) (by rwa [hscan])]
    rfl
  · subst hon
    rw [exec_sampleInstant_of_sampled hmem, State.debounce_of_third_on (by rwa [hline]) (by rwa [hscan]) (by rwa [hscan])]
    rfl
  · subst hoff
    have hdeclared : exec (.sampleInstant n .off) s = .next ((s.sampling n .off).declareOff n) := by
      rw [exec_sampleInstant_of_sampled hmem, State.debounce_of_third_off (by rwa [hline]) (by rwa [hscan]) (by rwa [hscan])]
    have hdated {d : Nat} (hd : dated s n d) : dated (s.sampling n .off) n d :=
      dated_congr (hscan n) hmode hperiods hnow hd
    refine ⟨fun k hactive hc halert d hd => ?_, fun hconserve hc d hd => ?_, fun hactive hconserve => ?_⟩
    · rw [hdeclared, State.declareOff_of_signal (hdated hd)
        (State.signalOf_of_answer (by rw [hmode, hactive]) (by rw [hline, hc]) (by rw [hline, halert])), hhanded]
      rfl
    · rw [hdeclared, State.declareOff_of_signal (hdated hd)
        (State.signalOf_of_wake (by rw [hmode, hconserve]) (by rw [hline, hc])), hhanded]
      rfl
    · rw [hdeclared, State.declareOff_of_no_signal (State.signalOf_of_none (by rwa [hmode, hline]) (by rwa [hmode, hline]))]
      rfl
  · rw [exec_debounceRunFails, if_pos hk]
  · intro b r hb hr hlt hle hrelease
    have hheld : s.releaseHeld n = true := (State.releaseHeld_iff hook).2 ⟨b, r, hb, hr, hlt⟩
    rw [exec_debounceRunFails_of_run hk, State.runFails_of_on hook,
      if_pos ⟨hheld, reached_iff.2 ⟨r, hr, hle⟩, hrelease⟩, ← State.releasePoint_runEnded hook hr hrelease]
    rfl
  · intro hfree
    rw [exec_debounceRunFails_of_run hk, State.runFails_of_on hook, if_neg]
    · rfl
    · rw [State.releaseHeld_iff hook, reached_iff]
      grind
  · intro b g hb hg hlt hle
    have hheld : s.gapHeld n = true := (State.gapHeld_iff hg).2 ⟨b, hlt, .inl ⟨hook, hb⟩⟩
    rw [exec_debounceRunFails_of_run hk, State.runFails_of_off hook, if_pos ⟨hheld, reached_iff.2 ⟨g, hg, hle⟩⟩,
      ← State.gapPoint_runEnded hook hg]
    rfl
  · intro hfree
    rw [exec_debounceRunFails_of_run hk, State.runFails_of_off hook, if_neg]
    · rfl
    · rintro ⟨hheld, hreached⟩
      obtain ⟨g, hg, hle⟩ := reached_iff.1 hreached
      obtain ⟨b, hlt, hrun⟩ := (State.gapHeld_iff hg).1 hheld
      grind

/-! ### The ON transition -/

/-- R14: a signal that is taken is no longer among those that wait, and the scanner is as it was otherwise. -/
theorem State.takeHanded_scanner (s : State) (x : Handed) : (s.takeHanded x).scanner = (s.unhand x).scanner := by
  cases x with
  | off n => simp [State.takeHanded]
  | answer n k =>
    rw [State.takeHanded, State.takeAnswer]
    split
    · simp
    · obtain ⟨-, -, -, -, -, hscanner, -⟩ := State.answerTaken_keeps ‹_›
      exact hscanner

theorem State.scan_takeHanded (s : State) (x : Handed) (m : LineNo) : (s.takeHanded x).scan m = s.scan m := by
  unfold State.scan
  rw [State.takeHanded_scanner]
  rfl

theorem State.scan_takeHandedOf (s : State) (n m : LineNo) : (s.takeHandedOf n).scan m = s.scan m := by
  unfold State.takeHandedOf
  exact foldl_keeps (fun t => t.scan m) State.takeHanded (fun t x => t.scan_takeHanded x m) _ _

theorem State.takeHandedOf_of_none {s : State} {n : LineNo} (h : ∀ x ∈ s.scanner.handed, x.line ≠ n) :
    s.takeHandedOf n = s := by
  have hnil : (s.scanner.handed.filter fun x => decide (x.line = n)) = [] :=
    List.filter_eq_nil_iff.2 fun x hx => by simpa using h x hx
  rw [State.takeHandedOf, hnil]
  rfl

/-- R14: the first signal of the line is taken, then those that wait after it. -/
theorem State.takeHandedOf_of_first {s : State} {n : LineNo} {front back : List Handed} {x : Handed}
    (hsplit : s.scanner.handed = front ++ x :: back) (hfront : ∀ y ∈ front, y.line ≠ n) (hx : x.line = n) :
    s.takeHandedOf n = (s.takeHanded x).takeHandedOf n := by
  have hmem : x ∉ front := fun hx' => hfront x hx' hx
  have hnil : (front.filter fun y => decide (y.line = n)) = [] :=
    List.filter_eq_nil_iff.2 fun y hy => by simpa using hfront y hy
  have hleft : (s.takeHanded x).scanner.handed = front ++ back := by
    rw [State.takeHanded_scanner, State.unhand]
    show s.scanner.handed.erase x = _
    rw [hsplit, List.erase_append_right _ hmem, List.erase_cons_head]
  rw [State.takeHandedOf, State.takeHandedOf, hleft, hsplit, List.filter_append, List.filter_append, hnil,
    List.filter_cons_of_pos (by simpa using hx)]
  rfl

/-- The record of a line whose break has begun at `t` (R6, R12). -/
def State.broken (u : State) (n : LineNo) (t : Nat) : State :=
  u.modScan n fun r =>
    { r with hook := .on, runCount := 0, runStart := none, lastTransition := some t,
             releasePoint := if (u.line n).callState.isRelease then some (t + 1000) else none }

section

variable {s : State} {n : LineNo} {t : Nat} (hdated : dated s n t) (hen : (s.line n).callState ≠ .deenergized)
  (hook : (s.scan n).hook = .off)
include hdated hen hook

theorem exec_onTransition_of_off : exec (.onTransition n) s = .next
    ((if reached t (s.scan n).gapPoint then (showing (s.takeHandedOf n) n .on).closeTrain n
      else showing (s.takeHandedOf n) n .on).broken n t) := by
  have hgap : ((showing (s.takeHandedOf n) n .on).scan n).gapPoint = (s.scan n).gapPoint :=
    congrArg ScanRecord.gapPoint (s.scan_takeHandedOf n n)
  have hnot : ¬ ((s.line n).callState = .deenergized ∨ (s.scan n).hook = .on) := by simp [hen, hook]
  show Host.Outcome.next (s.onTransition n) = _
  rw [State.onTransition, if_neg hnot, State.transitionTime_of_dated hdated, ← hgap]
  rfl

theorem exec_onTransition_of_no_train (h : ¬ reached t (s.scan n).gapPoint = true) :
    exec (.onTransition n) s = .next ((showing (s.takeHandedOf n) n .on).broken n t) := by
  rw [exec_onTransition_of_off hdated hen hook, if_neg h]

end

/-- Settles O34: the signals of the line, then its train if the gap point was passed, then the break. -/
theorem onTransitionStartsABreak : Obligations.OnTransitionStartsABreak := by
  unfold Obligations.OnTransitionStartsABreak
  intro s n t hdated ready broken
  refine ⟨State.takeHandedOf_of_none, fun front x back => State.takeHandedOf_of_first,
    fun h => congrArg Host.Outcome.next (if_pos h), fun hen hook => ⟨fun hnone => ?_, fun g hg => ⟨fun hlt => ?_, fun hle => ?_⟩⟩⟩
  · exact exec_onTransition_of_no_train hdated hen hook (by simp [reached, hnone])
  · exact exec_onTransition_of_no_train hdated hen hook (by simp [reached, hg, hlt])
  · rw [exec_onTransition_of_off hdated hen hook, if_pos (reached_iff.2 ⟨g, hg, hle⟩)]
    rfl

end Sys2Proof.Machine

/-! PROOF. OFF_HOOK and its admission (R27, R114), the entry to DIAL and the receivers (R45 to R48, R65), and what an OFF
transition makes of the break that it ends (R6 to R12). -/

namespace Sys2Proof.Machine

open Sys2Proof.Slice0

/-! ### Dial tone and receivers -/

theorem State.giveDialTone_eq_dialTone (s : State) (n : LineNo) : s.giveDialTone n = dialTone s n := by
  apply State.ext_of
  case line =>
    intro m
    rw [State.giveDialTone, State.line_startTimer, dialTone, State.line_modLine]
    split
    · rw [State.line_setTone, if_pos rfl, (State.setTone_keeps s n _).2.1]
      rfl
    · rw [State.line_setTone, if_neg ‹_›]
      rfl
  case tones => simp [State.giveDialTone, dialTone]
  all_goals simp [State.giveDialTone, dialTone]

theorem State.enterDial_of_pulse {s : State} {n : LineNo} (h : (s.line n).signalling = .pulse) :
    s.enterDial n = dialTone s n := by
  unfold State.enterDial
  rw [h, State.giveDialTone_eq_dialTone]

theorem State.enterDial_of_receiver {s : State} {n : LineNo} {r : ReceiverNo} (h : (s.line n).signalling = .tone)
    (hfree : s.receiverLine r = none) (hfirst : ∀ q, q < r → s.receiverLine q ≠ none) :
    s.enterDial n = dialTone (attached s r n) n := by
  have hr : s.freeReceiver = some r := find?_finRange_of_first (decide_eq_true hfree) fun q hq => decide_eq_false (hfirst q hq)
  unfold State.enterDial
  rw [h, hr, ← State.giveDialTone_eq_dialTone]
  rfl

theorem State.enterDial_of_no_receiver {s : State} {n : LineNo} (h : (s.line n).signalling = .tone)
    (hbusy : ∀ r, s.receiverLine r ≠ none) :
    s.enterDial n = ({ s with collector := { s.collector with
      waitList := s.collector.waitList ++ [n] } } : State).modLine n fun l =>
        { l with timer := some { kind := .wait, expires := s.now + 1000 * s.periods.waitLimit } } := by
  have hr : s.freeReceiver = none := find?_finRange_eq_none fun r => decide_eq_false (hbusy r)
  unfold State.enterDial
  rw [h, hr]
  rfl

theorem State.handOnReceiver_of_no_wait {s : State} (h : s.collector.waitList = []) (r : ReceiverNo) :
    s.handOnReceiver r = s.setReceiver r none := by
  unfold State.handOnReceiver
  rw [h]

theorem State.handOnReceiver_of_wait {s : State} {h : LineNo} {rest : List LineNo}
    (hwait : s.collector.waitList = h :: rest) (r : ReceiverNo) :
    s.handOnReceiver r =
      if (s.line h).digits = [] then
        dialTone (attached { s with collector := { s.collector with waitList := rest } } r h) h
      else attached { s with collector := { s.collector with waitList := rest } } r h := by
  have hdigits : ((attached { s with collector := { s.collector with waitList := rest } } r h).line h).digits =
      (s.line h).digits := by
    rw [attached, State.line_modLine, if_pos rfl]
    rfl
  rw [← hdigits, ← State.giveDialTone_eq_dialTone]
  unfold State.handOnReceiver
  rw [hwait]
  rfl

/-- Settles O36: the three ways into DIAL, the receiver handed on, and the line that leaves. -/
theorem dialEntryAndReceiversFollowTheWaitList : Obligations.DialEntryAndReceiversFollowTheWaitList := by
  unfold Obligations.DialEntryAndReceiversFollowTheWaitList
  intro s n
  refine ⟨State.enterDial_of_pulse, fun htone => ⟨fun r => State.enterDial_of_receiver htone,
    State.enterDial_of_no_receiver htone⟩, fun r => ⟨fun hnone => State.handOnReceiver_of_no_wait hnone r,
    fun h rest hwait => ⟨fun hdigits => ?_, fun hdigits => ?_⟩⟩, fun hnone => ?_, fun r hr => ?_⟩
  · rw [State.handOnReceiver_of_wait hwait, if_pos hdigits]
  · rw [State.handOnReceiver_of_wait hwait, if_neg hdigits]
  · have hleft : (((s.stopTimer n).dropTrain n).line n).receiver = none := by
      show ((s.stopTimer n).line n).receiver = none
      rw [State.line_stopTimer, if_pos rfl, hnone]
    unfold State.leaveDial
    dsimp only
    rw [hleft]
    rfl
  · have hleft : (((s.stopTimer n).dropTrain n).line n).receiver = some r := by
      show ((s.stopTimer n).line n).receiver = some r
      rw [State.line_stopTimer, if_pos rfl, hr]
    unfold State.leaveDial
    dsimp only
    rw [hleft]
    rfl

/-! ### The OFF transition -/

section

variable {s : State} {n : LineNo} {t : Nat}

theorem State.releaseLongBreak_of_short {b : Nat} (h : b < 1000 ∨ (s.line n).callState.isRelease = false) :
    s.releaseLongBreak n b = s := by
  refine if_neg fun hlong => ?_
  obtain ⟨hle, hrelease⟩ := hlong
  obtain h | h := h
  · exact absurd hle (Nat.not_le.2 h)
  · simp [h] at hrelease

theorem State.releaseLongBreak_of_long {b : Nat} (h : 1000 ≤ b) (hrelease : (s.line n).callState.isRelease = true) :
    s.releaseLongBreak n b = s.release n :=
  if_pos ⟨h, hrelease⟩

theorem State.breakLength_of_measures {b : Nat} (h : measures s n t b) : s.breakLength n t = b := by
  obtain ⟨u, hu, hb⟩ := h
  unfold State.breakLength
  rw [hu]
  dsimp only
  omega

theorem State.wakeIfConserving_of_active (h : s.mode.mode = .active) (c : WakeCause) : s.wakeIfConserving c = s := by
  unfold State.wakeIfConserving
  rw [h]

theorem exec_offTransition_of_none (h : (s.line n).callState = .deenergized ∨ (s.scan n).hook = .off) :
    exec (.offTransition n) s = .next s :=
  congrArg Host.Outcome.next (if_pos h)

/-- R6: in an ACTIVE part the transition of a line ends a break, which is classified once it is recorded. -/
theorem exec_offTransition_of_closing (h : closing s n t) (hen : (s.line n).callState ≠ .deenergized) :
    exec (.offTransition n) s =
      .next ((offAt (s.releaseLongBreak n (s.breakLength n t)) n t).classifyOff n t (s.breakLength n t)) := by
  obtain ⟨hmode, hook, hdated⟩ := h
  have hnot : ¬ ((s.line n).callState = .deenergized ∨ (s.scan n).hook = .off) := by simp [hen, hook]
  show Host.Outcome.next (s.offTransition n) = _
  rw [State.offTransition, if_neg hnot, State.transitionTime_of_dated hdated, State.wakeIfConserving_of_active hmode]
  rfl

theorem exec_offTransition_of_break {b : Nat} (h : closing s n t) (hb : measures s n t b)
    (hen : (s.line n).callState ≠ .deenergized) (hshort : b < 1000 ∨ (s.line n).callState.isRelease = false) :
    exec (.offTransition n) s = .next ((offAt s n t).classifyOff n t b) := by
  rw [exec_offTransition_of_closing h hen, State.breakLength_of_measures hb, State.releaseLongBreak_of_short hshort]

theorem line_offAt (s : State) (n m : LineNo) (t : Nat) : (offAt s n t).line m = s.line m :=
  rfl

theorem scan_offAt (s : State) (n : LineNo) (t : Nat) : (offAt s n t).scan n =
    { s.scan n with hook := .off, runCount := 0, runStart := none, lastTransition := some t, releasePoint := none } := by
  rw [offAt, State.scan_modScan, if_pos rfl]
  rfl

theorem State.takeOff_of_idle (h : (s.line n).callState = .idle) : s.takeOff n = s.originate n := by
  unfold State.takeOff
  rw [h]

theorem State.classifyOff_of_idle (h : (s.line n).callState = .idle) (b : Nat) : s.classifyOff n t b = s.originate n := by
  unfold State.classifyOff
  rw [h]
  exact State.takeOff_of_idle h

theorem State.classifyOff_of_alerted (h : (s.line n).callState = .alerted) (b : Nat) :
    s.classifyOff n t b = s.takeOff n := by
  unfold State.classifyOff
  rw [h]

theorem State.classifyOff_of_dial (h : (s.line n).callState = .dial) (b : Nat) :
    s.classifyOff n t b = s.breakInDial n t b := by
  unfold State.classifyOff
  rw [h]

theorem State.classifyOff_of_connected (h : (s.line n).callState = .connected) (b : Nat) :
    s.classifyOff n t b = s.breakInConnected n b := by
  unfold State.classifyOff
  rw [h]

/-- R11: elsewhere a break is ignored. -/
theorem State.classifyOff_of_ignored
    (h : (s.line n).callState = .waitBearer ∨ (s.line n).callState = .clearing ∨ (s.line n).callState = .lockout ∨
      (s.line n).callState = .denied) (b : Nat) : s.classifyOff n t b = s := by
  unfold State.classifyOff
  obtain h | h | h | h := h
  · rw [h]
  · rw [h]
  · rw [h]
  · rw [h]

end

/-! ### OFF_HOOK -/

theorem State.admitLine_eq (s : State) (n : LineNo) (c : Feed) : s.admitLine n c =
    ((({ s with power := { s.power with roll := s.power.roll ++ [n] } } : State).modLine n fun r =>
      { r with callState := .dial, feed := c, digits := [], planMatch := none, callNumber := r.callNumber + 1,
               events := addKind LineEvent.all .originated r.events }).enterDial n) := by
  rw [State.admitLine, State.joinRoll, State.addLineEvent, State.modLine_modLine, State.modLine_modLine]

theorem State.admission_of_full {s : State} {n : LineNo} (h : (s.line n).ceiling = .full)
    (hfits : s.committed + 9 ≤ s.power.budget) : s.admission n = some .full :=
  if_pos ⟨h, hfits⟩

theorem State.admission_of_reduced {s : State} {n : LineNo}
    (h : (s.line n).ceiling = .reduced ∨ s.power.budget < s.committed + 9) (hfits : s.committed + 6 ≤ s.power.budget) :
    s.admission n = some .reduced := by
  have hnot : ¬ ((s.line n).ceiling = .full ∧ s.committed + Config.fullPU ≤ s.power.budget) := by
    rintro ⟨hfull, hle⟩
    obtain h | h := h
    · simp [h] at hfull
    · exact absurd hle (Nat.not_le.2 h)
  rw [State.admission, if_neg hnot]
  exact if_pos hfits

theorem State.admission_of_denied {s : State} (n : LineNo) (h : s.power.budget < s.committed + 6) :
    s.admission n = none := by
  have hfull : ¬ ((s.line n).ceiling = .full ∧ s.committed + Config.fullPU ≤ s.power.budget) := fun hc =>
    absurd hc.2 (by simp only [Config.fullPU]; omega)
  rw [State.admission, if_neg hfull]
  exact if_neg (Nat.not_le.2 h)

theorem State.originate_of_admitted {s : State} {n : LineNo} {c : Feed} (h : s.admission n = some c) :
    s.originate n = (s.admitLine n c).examine := by
  rw [State.originate, h]

/-- Settles O35: OFF_HOOK in IDLE originates, and origination follows the admission of R114. -/
theorem offHookIsAdmittedOrDenied : Obligations.OffHookIsAdmittedOrDenied := by
  unfold Obligations.OffHookIsAdmittedOrDenied
  intro s n
  refine ⟨fun t hclosing hidle => ?_, fun hfull hfits => ?_, fun hreduced hfits => ?_, fun hdenied => ?_⟩
  · rw [exec_offTransition_of_closing hclosing (by simp [hidle]),
      State.releaseLongBreak_of_short (.inr (by simp [hidle, CallState.isRelease])),
      State.classifyOff_of_idle (by rw [line_offAt, hidle])]
  · rw [State.originate_of_admitted (State.admission_of_full hfull hfits), State.admitLine_eq]
  · rw [State.originate_of_admitted (State.admission_of_reduced hreduced hfits), State.admitLine_eq]
  · rw [State.originate, State.admission_of_denied n hdenied]
    dsimp only
    rw [State.addLineEvent, State.modLine_modLine]

/-! ### Breaks -/

/-- Settles O37: the three ranges of a break in DIAL. -/
theorem breakInDialIsIgnoredCountedOrMisdial : Obligations.BreakInDialIsIgnoredCountedOrMisdial := by
  unfold Obligations.BreakInDialIsIgnoredCountedOrMisdial
  intro s n t b hclosing hmeasures hdial v
  have hbreak (hshort : b < 1000) : exec (.offTransition n) s = .next (v.breakInDial n t b) := by
    rw [exec_offTransition_of_break hclosing hmeasures (by simp [hdial]) (.inl hshort),
      State.classifyOff_of_dial (by rw [line_offAt, hdial])]
  have hgap : (v.scan n).gapPoint = (s.scan n).gapPoint := by
    rw [show v.scan n = _ from scan_offAt s n t]
  have hnow : v.now = s.now := rfl
  refine ⟨fun hb => ?_, fun hlow hhigh => ?_, fun hlow hb => ?_⟩
  · rw [hbreak (by omega), State.breakInDial, if_pos hb, hgap, hnow]
    refine ⟨fun hnone => ?_, fun g hg => ⟨fun hlt => ?_, fun hle => ?_⟩⟩
    · rw [if_neg (by simp [reached, hnone])]
    · rw [if_neg (by simp [reached, hg, hlt])]
    · rw [if_pos (reached_iff.2 ⟨g, hg, hle⟩)]
  · rw [hbreak (by omega), State.breakInDial, if_neg (by omega), if_pos hhigh]
    rfl
  · rw [hbreak hb, State.breakInDial, if_neg (by omega), if_neg (by omega), State.misdial_eq_clearing]
    rfl

/-- Settles O38: a break in CONNECTED is a FLASH in its range and nothing outside it. -/
theorem breakInConnectedIsFlashOrIgnored : Obligations.BreakInConnectedIsFlashOrIgnored := by
  unfold Obligations.BreakInConnectedIsFlashOrIgnored
  intro s n t b hclosing hmeasures hconnected
  have hbreak (hshort : b < 1000) : exec (.offTransition n) s = .next ((offAt s n t).breakInConnected n b) := by
    rw [exec_offTransition_of_break hclosing hmeasures (by simp [hconnected]) (.inl hshort),
      State.classifyOff_of_connected (by rw [line_offAt, hconnected])]
  refine ⟨fun hlow hhigh => ?_, fun hout => ?_⟩
  · rw [hbreak (by omega), State.breakInConnected, if_pos ⟨hlow, hhigh⟩, State.flash, State.addLineEvent,
      State.modLine_modLine]
  · rw [hbreak (by omega), State.breakInConnected, if_neg (by omega)]

/-- Settles O39: a short break is ignored by these states; a long one is RELEASE before its end is classified. -/
theorem breakElsewhereIsIgnoredOrRelease : Obligations.BreakElsewhereIsIgnoredOrRelease := by
  unfold Obligations.BreakElsewhereIsIgnoredOrRelease
  intro s n
  refine ⟨fun t b hclosing hmeasures => ⟨fun hstate hshort => ?_, fun hrelease hlong hidle => ?_⟩,
    exec_offTransition_of_none⟩
  · have hen : (s.line n).callState ≠ .deenergized := by
      obtain h | h | h | h := hstate
      all_goals simp [h]
    rw [exec_offTransition_of_break hclosing hmeasures hen (.inl hshort),
      State.classifyOff_of_ignored (s := offAt s n t) (by rwa [line_offAt])]
  · have hen : (s.line n).callState ≠ .deenergized := fun h => by simp [h, CallState.isRelease] at hrelease
    rw [exec_offTransition_of_closing hclosing hen, State.breakLength_of_measures hmeasures,
      State.releaseLongBreak_of_long hlong hrelease, State.classifyOff_of_idle (by rw [line_offAt, hidle])]

end Sys2Proof.Machine

/-! PROOF. An ANSWER taken at once or later (R36, R37, R101, R102), the release point and what RELEASE gives up (R12,
R28 to R37), and the group timer (R16, R17). -/

namespace Sys2Proof.Machine

open Sys2Proof.Slice0

/-! ### ANSWER -/

section

variable {s : State} {n : LineNo}

/-- R101.1: the alert that has ended is written and leaves the placement order. -/
theorem State.endRecord_of_some {p : AlertPos} {a : AlertRecord} (ha : s.alertAt p = some a) (final : AlertState)
    (cause : Option AlertCause) (answering : Option LineNo) :
    s.endRecord p final cause answering = { s with ring := { s.ring with
      alerts := s.ring.alerts.set p.1 (some (a.ended final cause answering)) p.2
      placed := s.ring.placed.erase p } } := by
  simp only [State.endRecord, State.modAlert, ha, Option.map_some]
  rfl

theorem State.modLine_modBearer (s : State) (n : LineNo) (b : BearerNo) (f : LineRecord → LineRecord)
    (g : BearerRecord → BearerRecord) : (s.modLine n f).modBearer b g = (s.modBearer b g).modLine n f :=
  rfl

theorem State.line_modBearer (s : State) (n : LineNo) (b : BearerNo) (g : BearerRecord → BearerRecord) :
    (s.modBearer b g).line n = s.line n :=
  rfl

/-- R101.2 to R101.4: the model gives FULL before the bearer is held; `answeredBy` writes the line once. -/
theorem State.hold_answered_eq {j : State} {b : BearerNo} (hreduced : (j.line n).feed = .reduced) :
    ((((if (j.line n).ceiling = .full ∧ j.committed + 3 ≤ j.power.budget then
        j.modLine n fun r => { r with feed := .full } else j).hold n b).modLine n fun r =>
          { r with alert := none, callNumber := r.callNumber + 1 }).addLineEvent n .answered) =
      (j.modBearer b fun r =>
        { r with state := .busy, downReason := none, holder := some (.line n) }).modLine n fun r =>
          { r with
            feed := if r.ceiling = .full ∧ j.committed + 3 ≤ j.power.budget then .full else .reduced
            callState := .connected, bearer := some b, timer := none, alert := none
            callNumber := r.callNumber + 1, events := addKind LineEvent.all .answered r.events } := by
  rw [State.hold, State.addLineEvent, State.modLine_modLine, State.modLine_modLine]
  split
  next hfull =>
    rw [State.modLine_modBearer, State.modLine_modLine]
    refine State.modLine_congr _ n _ _ ?_
    rw [State.line_modBearer, if_pos hfull]
  next hnot =>
    refine State.modLine_congr _ n _ _ ?_
    rw [State.line_modBearer, if_neg hnot, ← hreduced]

theorem State.answer_eq_answeredBy {p : AlertPos} {a : AlertRecord} (ha : s.alertAt p = some a) :
    s.answer p a n = answeredBy s n p a := by
  unfold State.answer State.answerFeed
  rw [State.endRecord_of_some ha]
  dsimp only
  rw [show Config.fullPU - Config.reducedPU = 3 from rfl, State.hold_answered_eq (by simp [State.joinRoll])]
  rfl

theorem State.answerTaken_of_answerable {k : Nat} {p : AlertPos} {a : AlertRecord} (h : answerable s n k p a) :
    s.answerTaken n k = some (answeredBy s n p a) := by
  obtain ⟨ha, rfl, hfirst, hmember, hstate⟩ := h
  have hout : a.state.outstanding = true := (AlertState.outstanding_iff _).2 hstate
  simp only [State.answerTaken, State.findAlert_of_first ha hfirst, ha, hout, hmember, and_self, if_true,
    State.answer_eq_answeredBy ha]

theorem State.answerTaken_of_unanswerable {k : Nat} (h : unanswerable s n k) : s.answerTaken n k = none := by
  unfold State.answerTaken
  cases hfind : s.findAlert k with
  | none => rfl
  | some p =>
    dsimp only
    have hp := List.find?_some hfind
    cases ha : s.alertAt p with
    | none => rfl
    | some a =>
      dsimp only
      rw [ha] at hp
      refine if_neg fun htaken => ?_
      obtain ⟨hout, hmember⟩ := htaken
      obtain hended | hnot := h p a ha (of_decide_eq_true hp)
      · rw [(AlertState.outstanding_eq_false_iff _).2 hended] at hout
        exact Bool.false_ne_true hout
      · exact hnot hmember

/-- R6: the OFF transition of a line in ALERTED is the ANSWER of its alert. -/
theorem State.takeOff_of_alerted (hstate : (s.line n).callState = .alerted) :
    (∀ k p a, (s.line n).alert = some k → answerable s n k p a → s.takeOff n = answeredBy s n p a) ∧
      ((∀ k, (s.line n).alert = some k → unanswerable s n k) → s.takeOff n = s) := by
  unfold State.takeOff
  rw [hstate]
  dsimp only
  refine ⟨fun k p a hk h => ?_, fun h => ?_⟩
  · rw [hk]
    dsimp only
    rw [State.answerTaken_of_answerable h]
  · cases hk : (s.line n).alert with
    | none => rfl
    | some k =>
      dsimp only
      rw [State.answerTaken_of_unanswerable (h k hk)]

theorem State.takeOff_of_deenergized (hstate : (s.line n).callState = .deenergized) : s.takeOff n = s := by
  unfold State.takeOff
  rw [hstate]

theorem State.takeAnswer_of_answerable {k : Nat} {p : AlertPos} {a : AlertRecord} (h : answerable s n k p a) :
    s.takeAnswer n k = answeredBy s n p a := by
  unfold State.takeAnswer
  rw [State.answerTaken_of_answerable h]

theorem State.takeAnswer_of_unanswerable {k : Nat} (h : unanswerable s n k) : s.takeAnswer n k = s.takeOff n := by
  unfold State.takeAnswer
  rw [State.answerTaken_of_unanswerable h]

end

/-- Settles O40: the OFF transition in ALERTED, and the ANSWER taken later by what stands under its number. -/
theorem answerConnectsTheAlertedLine : Obligations.AnswerConnectsTheAlertedLine := by
  unfold Obligations.AnswerConnectsTheAlertedLine
  intro s n
  refine ⟨fun t hclosing halerted => ?_, fun k => ?_⟩
  · have hoff : exec (.offTransition n) s = .next ((offAt s n t).takeOff n) := by
      rw [exec_offTransition_of_closing hclosing (by simp [halerted]),
        State.releaseLongBreak_of_short (.inr (by rw [halerted]; rfl)),
        State.classifyOff_of_alerted (by rw [line_offAt, halerted])]
    obtain ⟨htaken, hignored⟩ := State.takeOff_of_alerted (s := offAt s n t) (n := n) (by rw [line_offAt, halerted])
    rw [hoff]
    exact ⟨fun k p a hk h => congrArg _ (htaken k p a hk h), fun h => congrArg _ (hignored h)⟩
  · intro v
    refine ⟨fun p a h => State.takeAnswer_of_answerable (s := v) h, fun hnot => ?_⟩
    have hv : s.takeHanded (.answer n k) = v.takeOff n := State.takeAnswer_of_unanswerable (s := v) hnot
    rw [hv]
    exact ⟨State.takeOff_of_idle (s := v), State.takeOff_of_deenergized (s := v), fun j p a halerted hj h =>
      (State.takeOff_of_alerted (s := v) halerted).1 j p a hj h⟩

/-! ### The release point -/

section

variable {s : State} {n : LineNo}

theorem exec_releasePointReached_of_none (h : (s.scan n).releasePoint = none) :
    exec (.releasePointReached n) s = .next s :=
  congrArg Host.Outcome.next (if_pos h)

variable {r : Nat} (hr : (s.scan n).releasePoint = some r)
include hr

theorem exec_releasePointReached_of_other (hstate : (s.line n).callState.isRelease = false) :
    exec (.releasePointReached n) s = .next (s.modScan n fun x => { x with releasePoint := none }) := by
  show Host.Outcome.next (s.releasePoint n) = _
  rw [State.releasePoint, if_neg (by simp [hr]), if_neg (by simp [hstate])]

variable (hstate : (s.line n).callState.isRelease = true)
include hstate

theorem exec_releasePointReached_of_held (h : s.releaseHeld n = true) : exec (.releasePointReached n) s = .next s := by
  show Host.Outcome.next (s.releasePoint n) = _
  rw [State.releasePoint, if_neg (by simp [hr]), if_pos hstate, if_pos h]

theorem exec_releasePointReached_of_release (h : s.releaseHeld n = false) :
    exec (.releasePointReached n) s = .next (s.release n) := by
  show Host.Outcome.next (s.releasePoint n) = _
  rw [State.releasePoint, if_neg (by simp [hr]), if_pos hstate, if_neg (by simp [h])]

end

/-- R12: an OFF run that did not begin strictly before the release point does not hold the decision. -/
theorem State.releaseHeld_of_not_before {s : State} {n : LineNo} {r : Nat} (hr : (s.scan n).releasePoint = some r)
    (h : (s.scan n).hook = .off ∨ (s.scan n).runStart = none ∨ ∃ b, (s.scan n).runStart = some b ∧ r ≤ b) :
    s.releaseHeld n = false := by
  unfold State.releaseHeld
  dsimp only
  cases hook : (s.scan n).hook with
  | off => rfl
  | on =>
    obtain h | h | ⟨b, hb, hle⟩ := h
    · simp [hook] at h
    · rw [h]
    · rw [hb, hr]
      exact decide_eq_false (Nat.not_lt.2 hle)

theorem State.toIdle_released_eq_idled (s : State) (n : LineNo) : (s.toIdle n).addLineEvent n .released = idled s n := by
  apply State.ext_of
  case line =>
    intro m
    rw [State.line_addLineEvent, State.line_toIdle, State.line_toIdle, idled, State.line_modLine, if_pos rfl]
    split
    · rfl
    · rfl
  case tones => simp [idled]
  case power => simp [idled]
  all_goals simp [idled]

/-- R12: RELEASE clears the points and the pulse count, gives up what the state holds, and closes the account. -/
theorem State.release_of_releaseCall {s w : State} {n : LineNo}
    (h : (s.modScan n fun x => { x with pulseCount := 0, gapPoint := none, releasePoint := none }).releaseCall n =
      idled w n) : s.release n = (idled w n).settle s.committed := by
  rw [State.release, State.accounted, State.dropTrain, State.modScan_modScan, h]
  rfl

section

variable {v : State} {n : LineNo}

theorem State.releaseCall_of_denied (h : (v.line n).callState = .denied) : v.releaseCall n =
    idled { v with power := { v.power with waitList := v.power.waitList.erase n } } n := by
  unfold State.releaseCall
  rw [h]
  exact State.toIdle_released_eq_idled _ n

theorem State.releaseCall_of_dial (h : (v.line n).callState = .dial) : v.releaseCall n = idled (v.leaveDial n) n := by
  unfold State.releaseCall
  rw [h]
  exact State.toIdle_released_eq_idled _ n

theorem State.releaseCall_of_waitBearer (h : (v.line n).callState = .waitBearer) : v.releaseCall n =
    idled { v with pool := { v.pool with queue := v.pool.queue.filter fun e => e.1 ≠ n } } n := by
  unfold State.releaseCall
  rw [h]
  exact State.toIdle_released_eq_idled _ n

theorem State.handBack_of_some {b : BearerNo} (hb : (v.line n).bearer = some b) :
    v.handBack n = (v.modLine n fun l => { l with bearer := none }).enterFree b := by
  unfold State.handBack
  rw [hb]

theorem State.releaseCall_of_connected {b : BearerNo} (h : (v.line n).callState = .connected)
    (hb : (v.line n).bearer = some b) :
    v.releaseCall n = idled ((v.modLine n fun l => { l with bearer := none }).enterFree b) n := by
  unfold State.releaseCall
  rw [h, ← State.handBack_of_some hb]
  exact State.toIdle_released_eq_idled _ n

theorem State.releaseCall_of_silent (h : (v.line n).callState = .clearing ∨ (v.line n).callState = .lockout) :
    v.releaseCall n = idled v n := by
  unfold State.releaseCall
  obtain h | h := h
  · rw [h]
    exact State.toIdle_released_eq_idled _ n
  · rw [h]
    exact State.toIdle_released_eq_idled _ n

end

/-- Settles O41: the decision at the release point, then RELEASE by the call state. -/
theorem releasePointReleasesTheLine : Obligations.ReleasePointReleasesTheLine := by
  unfold Obligations.ReleasePointReleasesTheLine
  intro s n
  refine ⟨exec_releasePointReached_of_none, fun r hr => ⟨exec_releasePointReached_of_other hr, fun hstate hheld => ?_,
    fun hfree => ?_⟩⟩
  · obtain ⟨b, hook, hb, hlt⟩ := hheld
    exact exec_releasePointReached_of_held hr hstate ((State.releaseHeld_iff hook).2 ⟨b, r, hb, hr, hlt⟩)
  · intro v released
    have hreleased (w : State) (hstate : (s.line n).callState.isRelease = true) (h : v.releaseCall n = idled w n) :
        released w :=
      ⟨State.release_of_releaseCall h,
        exec_releasePointReached_of_release hr hstate (State.releaseHeld_of_not_before hr hfree)⟩
    refine ⟨fun h => ?_, fun h => ?_, fun h => ?_, fun b h hb => ?_, fun h => ?_⟩
    · exact hreleased _ (by rw [h]; rfl) (State.releaseCall_of_denied (v := v) h)
    · exact hreleased _ (by rw [h]; rfl) (State.releaseCall_of_dial (v := v) h)
    · exact hreleased _ (by rw [h]; rfl) (State.releaseCall_of_waitBearer (v := v) h)
    · exact hreleased _ (by rw [h]; rfl) (State.releaseCall_of_connected (v := v) h hb)
    · refine hreleased _ ?_ (State.releaseCall_of_silent (v := v) h)
      obtain h | h := h
      all_goals rw [h]; rfl

/-! ### The group timer -/

/-- A kind that is pending already is not made pending again. -/
theorem addKind_addKind {α : Type} [DecidableEq α] (all : List α) (k : α) (set : List α) :
    addKind all k (addKind all k set) = addKind all k set := by
  refine List.filter_congr fun e he => ?_
  simp only [addKind, List.mem_filter, decide_eq_true_eq, decide_eq_decide]
  exact ⟨fun h => h.elim .inl fun h => h.2, fun h => .inr ⟨he, h⟩⟩

/-- R17: the record of a line that has been energized. -/
def LineRecord.energized (r : LineRecord) : LineRecord :=
  { r with callState := .idle, feed := .sense, events := addKind LineEvent.all .energized r.events }

theorem LineRecord.energized_energized (r : LineRecord) : r.energized.energized = r.energized := by
  simp only [LineRecord.energized, addKind_addKind]

theorem State.line_energizeLine (s : State) (n m : LineNo) :
    (s.energizeLine n).line m = if m = n then (s.line n).energized else s.line m := by
  rw [State.energizeLine, State.addLineEvent, State.modLine_modLine, State.line_modLine]
  rfl

theorem State.scan_energizeLine (s : State) (n m : LineNo) :
    (s.energizeLine n).scan m = if m = n then ScanRecord.initial else s.scan m := by
  rw [State.energizeLine, ← State.scan_modScan s n m fun _ => ScanRecord.initial]
  rfl

/-- R17: energizing lines writes scanner records and line records only. -/
theorem State.energizing_frame (group : List LineNo) (s : State) : ∃ records lines, group.foldl State.energizeLine s =
    { s with scanner := { s.scanner with records := records }, lines := lines } := by
  induction group generalizing s with
  | nil => exact ⟨_, _, rfl⟩
  | cons n rest ih =>
    obtain ⟨records, lines, h⟩ := ih (s.energizeLine n)
    exact ⟨records, lines, h⟩

theorem State.energizing_other {group : List LineNo} {n : LineNo} (h : n ∉ group) (s : State) :
    (group.foldl State.energizeLine s).line n = s.line n ∧ (group.foldl State.energizeLine s).scan n = s.scan n := by
  induction group generalizing s with
  | nil => exact ⟨rfl, rfl⟩
  | cons m rest ih =>
    obtain ⟨hne, hrest⟩ := List.ne_and_not_mem_of_not_mem_cons h
    obtain ⟨hline, hscan⟩ := ih hrest (s.energizeLine m)
    rw [State.line_energizeLine, if_neg hne] at hline
    rw [State.scan_energizeLine, if_neg hne] at hscan
    exact ⟨hline, hscan⟩

/-- R17: a line of the group is energized, however often the group names it. -/
theorem State.energizing_member {group : List LineNo} {n : LineNo} (h : n ∈ group) (s : State) :
    (group.foldl State.energizeLine s).line n = (s.line n).energized ∧
      (group.foldl State.energizeLine s).scan n = ScanRecord.initial := by
  induction group generalizing s with
  | nil => exact absurd h List.not_mem_nil
  | cons m rest ih =>
    by_cases hrest : n ∈ rest
    · obtain ⟨hline, hscan⟩ := ih hrest (s.energizeLine m)
      refine ⟨hline.trans ?_, hscan⟩
      rw [State.line_energizeLine]
      split
      next heq => rw [heq, LineRecord.energized_energized]
      next => rfl
    · obtain rfl : n = m := (List.mem_cons.1 h).resolve_right hrest
      obtain ⟨hline, hscan⟩ := State.energizing_other hrest (s.energizeLine n)
      rw [State.line_energizeLine, if_pos rfl] at hline
      rw [State.scan_energizeLine, if_pos rfl] at hscan
      exact ⟨hline, hscan⟩

/-- R16: the state after the group timer's expiry, but for the lines energized. -/
def State.groupTaken (s : State) : State :=
  { s with scanner := { s.scanner with
    energizeList := s.scanner.energizeList.drop 4
    groupTimer := if s.scanner.energizeList.drop 4 = [] then none else some (s.now + 250) } }

theorem exec_groupTimerExpiry_of_running {s : State} (h : s.scanner.groupTimer ≠ none) :
    exec .groupTimerExpiry s = .next ((s.scanner.energizeList.take 4).foldl State.energizeLine s.groupTaken) :=
  congrArg Host.Outcome.next (if_neg h)

/-- Settles O43: what the expiry keeps by the frame of energizing, then the lines in the group and the others. -/
theorem groupTimerEnergizesFourLines : Obligations.GroupTimerEnergizesFourLines := by
  unfold Obligations.GroupTimerEnergizesFourLines
  intro s
  refine ⟨fun h => congrArg Host.Outcome.next (if_pos h), fun h => ⟨_, exec_groupTimerExpiry_of_running h, ?_⟩⟩
  have hmember := fun n hn => State.energizing_member (n := n) (group := s.scanner.energizeList.take 4) hn s.groupTaken
  have hother := fun n hn => State.energizing_other (n := n) (group := s.scanner.energizeList.take 4) hn s.groupTaken
  obtain ⟨records, lines, hframe⟩ := State.energizing_frame (s.scanner.energizeList.take 4) s.groupTaken
  rw [hframe] at hmember hother ⊢
  refine ⟨rfl, ?_, rfl, rfl, rfl, rfl, hmember, hother, rfl⟩
  exact if_congr (by simp) rfl rfl

end Sys2Proof.Machine

/-! PROOF. Digits and their checks (R53 to R56, R60), the plan lookup (R59), completion (R61 to R64), the supply of a
completing line (R72 to R78, R106) and the expiry of the state timers (R30, R34, R35, R38, R48 to R50). -/

namespace Sys2Proof.Machine

open Sys2Proof.Slice0

/-! ### A digit recorded -/

theorem State.setTone_eq_modLine (s : State) (n : LineNo) (t : Option ToneKind) :
    s.setTone n t = ({ s with tones := (s.setTone n t).tones } : State).modLine n fun r => { r with tone := t } :=
  State.setTone_eq s n t

theorem State.modLine_with_tones (s : State) (n : LineNo) (f : LineRecord → LineRecord) (tones : Tones) :
    ({ s.modLine n f with tones := tones } : State) = ({ s with tones := tones } : State).modLine n f :=
  rfl

/-- R54, steps 1 to 4: the steps of the model, which write the line one field at a time, are `recorded`. -/
theorem State.recordDigit_eq_recorded (s : State) (n : LineNo) (d : Digit) : s.recordDigit n d = recorded s n d := by
  have htone : ((s.modLine n fun r => { r with digits := r.digits ++ [d] }).line n).tone = (s.line n).tone := by simp
  unfold State.recordDigit recorded
  dsimp only
  rw [htone]
  by_cases h : (s.line n).digits = [] ∧ (s.line n).tone = some .dial
  · have htones : ((s.modLine n fun r => { r with digits := r.digits ++ [d] }).setTone n none).tones =
        (s.setTone n none).tones := State.setTone_tones_modLine s n n _ rfl none
    rw [if_pos (by simpa using h), if_pos h, State.setTone_eq_modLine, htones, State.modLine_with_tones,
      State.startTimer, State.modLine_modLine, State.modLine_modLine, State.modLine_modLine]
    refine State.modLine_congr _ n _ _ ?_
    rw [if_pos h]
    rfl
  · rw [if_neg (by simpa using h), if_neg h, State.startTimer, State.modLine_modLine, State.modLine_modLine]
    refine State.modLine_congr _ n _ _ ?_
    rw [if_neg h]
    rfl

theorem line_recorded (s : State) (n : LineNo) (d : Digit) :
    ((recorded s n d).line n).digits = (s.line n).digits ++ [d] ∧
      ((recorded s n d).line n).planMatch = lookup s.collector.plan ((s.line n).digits ++ [d]) := by
  rw [recorded, State.line_modLine, if_pos rfl]
  exact ⟨rfl, rfl⟩

section

variable {s : State} {n : LineNo}

theorem State.checkNumber_of_full (h : 24 ≤ (s.line n).digits.length) : s.checkNumber n = s.complete n :=
  if_pos h

variable (hroom : (s.line n).digits.length < 24)
include hroom

theorem State.checkNumber_of_no_match (h : (s.line n).planMatch = none) : s.checkNumber n = s := by
  unfold State.checkNumber
  dsimp only
  rw [if_neg (Nat.not_le.2 hroom), h]

theorem State.checkNumber_of_match {m : PlanMatch} (h : (s.line n).planMatch = some m) :
    s.checkNumber n = if m.cls = .barred then s.bar n
      else if m.length ≤ (s.line n).digits.length then s.complete n else s := by
  unfold State.checkNumber
  dsimp only
  rw [if_neg (Nat.not_le.2 hroom), h]

end

section

variable {s : State} {r : ReceiverNo} {n : LineNo}

theorem exec_receiverDigit_of_discarded (k : Key)
    (h : s.receiverLine r = none ∨ (s.receiverLine r = some n ∧ (s.line n).callState ≠ .dial)) :
    exec (.receiverDigit r k) s = .next s := by
  show Host.Outcome.next (s.takeKey r k) = _
  unfold State.takeKey
  obtain h | ⟨h, hother⟩ := h
  · rw [h]
  · rw [h]
    exact congrArg _ (if_neg hother)

variable (hr : s.receiverLine r = some n) (hdial : (s.line n).callState = .dial)
include hr hdial

theorem exec_receiverDigit_of_digit (d : Digit) : exec (.receiverDigit r (.digit d)) s = .next (s.appendDigit n d) := by
  show Host.Outcome.next (s.takeKey r (.digit d)) = _
  unfold State.takeKey
  rw [hr]
  exact congrArg _ (if_pos hdial)

theorem exec_receiverDigit_of_hash : exec (.receiverDigit r .hash) s = .next (s.hashKey n) := by
  show Host.Outcome.next (s.takeKey r .hash) = _
  unfold State.takeKey
  rw [hr]
  exact congrArg _ (if_pos hdial)

end

/-- Settles O44: the digit taken or discarded, then the checks of the number that has been recorded. -/
theorem receiverDigitIsAppendedAndChecked : Obligations.ReceiverDigitIsAppendedAndChecked := by
  unfold Obligations.ReceiverDigitIsAppendedAndChecked
  intro s r n d v
  have happend : s.appendDigit n d = (recorded s n d).checkNumber n := by rw [State.appendDigit, State.recordDigit_eq_recorded]
  obtain ⟨hdigits, hmatch⟩ := line_recorded s n d
  have hlength : ((recorded s n d).line n).digits.length = (s.line n).digits.length + 1 := by rw [hdigits]; simp
  refine ⟨exec_receiverDigit_of_discarded, fun hr hdial => ⟨exec_receiverDigit_of_digit hr hdial d, fun hnil => ?_,
    fun hsome => ?_⟩, fun hfull => ?_, fun hroom => ⟨fun hnone => ?_, fun m hm => ?_⟩⟩
  · rw [exec_receiverDigit_of_hash hr hdial, State.hashKey, if_pos hnil, State.misdial_eq_clearing]
  · rw [exec_receiverDigit_of_hash hr hdial, State.hashKey, if_neg hsome]
  · rw [happend, State.checkNumber_of_full (by omega)]
  · rw [happend, State.checkNumber_of_no_match (by omega) (hmatch.trans hnone)]
  · rw [happend, State.checkNumber_of_match (by omega) (hmatch.trans hm)]
    refine ⟨fun hbarred => ?_, fun hcls hle => ?_, fun hcls hlt => ?_⟩
    · rw [if_pos hbarred]
      exact State.toClearing_eq_clearing _ n _ _
    · rw [if_neg hcls, if_pos (by omega)]
    · rw [if_neg hcls, if_neg (by omega)]

/-! ### The plan lookup -/

theorem longestEntry_eq_none_iff {l : List PlanEntry} : longestEntry l = none ↔ l = [] := by
  cases l with
  | nil => exact ⟨fun _ => rfl, fun _ => rfl⟩
  | cons e rest =>
    unfold longestEntry
    cases longestEntry rest with
    | none => simp
    | some f => by_cases h : f.leading.length ≤ e.leading.length <;> simp [h]

/-- The entry found is one of the list, and none of the list is longer. -/
theorem longestEntry_longest {l : List PlanEntry} {e : PlanEntry} (h : longestEntry l = some e) :
    e ∈ l ∧ ∀ f ∈ l, f.leading.length ≤ e.leading.length := by
  induction l generalizing e with
  | nil => exact absurd h (by simp [longestEntry])
  | cons x rest ih =>
    unfold longestEntry at h
    cases hrest : longestEntry rest with
    | none =>
      rw [hrest] at h
      obtain rfl := Option.some.inj h
      rw [longestEntry_eq_none_iff.1 hrest]
      simp
    | some y =>
      obtain ⟨hy, hlongest⟩ := ih hrest
      rw [hrest] at h
      dsimp only at h
      split at h
      next hle =>
        obtain rfl := Option.some.inj h
        refine ⟨List.mem_cons_self, fun f hf => ?_⟩
        obtain rfl | hf := List.mem_cons.1 hf
        · exact le_rfl
        · exact (hlongest f hf).trans hle
      next hlt =>
        obtain rfl := Option.some.inj h
        refine ⟨List.mem_cons_of_mem _ hy, fun f hf => ?_⟩
        obtain rfl | hf := List.mem_cons.1 hf
        · exact (Nat.lt_of_not_le hlt).le
        · exact hlongest f hf

/-- Settles O45: the entries that match are filtered, and the longest of them is found. -/
theorem planLookupFindsTheLongestPrefix : Obligations.PlanLookupFindsTheLongestPrefix := by
  unfold Obligations.PlanLookupFindsTheLongestPrefix
  intro plan digits
  have hmem (e : PlanEntry) : e ∈ plan.filter (fun e => e.leading.isPrefixOf digits) ↔ e ∈ plan ∧ e.leading <+: digits := by
    rw [List.mem_filter, List.isPrefixOf_iff_prefix]
  refine ⟨?_, fun m hm => ?_⟩
  · rw [lookup, Option.map_eq_none_iff, longestEntry_eq_none_iff, List.filter_eq_nil_iff]
    simp only [List.isPrefixOf_iff_prefix]
  · obtain ⟨e, he, rfl⟩ := Option.map_eq_some_iff.1 hm
    obtain ⟨hfound, hlongest⟩ := longestEntry_longest he
    obtain ⟨hplan, hprefix⟩ := (hmem e).1 hfound
    exact ⟨e, hplan, hprefix, rfl, fun f hf hf' => hlongest f ((hmem f).2 ⟨hf, hf'⟩)⟩

/-! ### Completion -/

theorem LineRecord.timerIs_iff (r : LineRecord) (k : TimerKind) :
    r.timerIs k = true ↔ ∃ x, r.timer = some { kind := k, expires := x } := by
  unfold LineRecord.timerIs
  cases r.timer with
  | none => simp
  | some t =>
    obtain ⟨kind, expires⟩ := t
    simp

/-- R38: a state timer runs in the state its kind belongs to. -/
theorem State.timerRuns_iff (s : State) (n : LineNo) (k : TimerKind) (c : CallState) :
    s.timerRuns n k c = true ↔ (s.line n).callState = c ∧ ∃ x, (s.line n).timer = some { kind := k, expires := x } := by
  rw [State.timerRuns, Bool.and_eq_true, decide_eq_true_eq, LineRecord.timerIs_iff]

theorem matchIs_iff {c : PlanClass} {m : Option PlanMatch} : matchIs c m = true ↔ ∃ x, m = some x ∧ x.cls = c := by
  cases m <;> simp [matchIs]

section

variable {s : State} {n : LineNo}

/-- R61, the first step: the line has left DIAL and its tone has ended. -/
def State.dialled (s : State) (n : LineNo) : State :=
  (s.leaveDial n).setTone n none

theorem State.complete_of_completeNumber {t : State} (h : s.completeNumber n = t) : s.complete n = t.settle s.committed := by
  rw [State.complete, State.accounted, h]

theorem State.completeNumber_of_restricted (h : ((s.dialled n).line n).restricted = true)
    (hmatch : ¬ matchIs .priority ((s.dialled n).line n).planMatch = true) :
    s.completeNumber n = clearing (s.dialled n) n (some .congestion) .restricted :=
  (if_pos ⟨h, hmatch⟩).trans (State.toClearing_eq_clearing _ n _ _)

variable (hallowed : ¬ (((s.dialled n).line n).restricted = true ∧
  ¬ matchIs .priority ((s.dialled n).line n).planMatch = true))
include hallowed

theorem State.completeNumber_of_congested (h : s.highway.state = .down ∨ s.sli.controller = .lost) :
    s.completeNumber n = clearing (s.dialled n) n (some .congestion) .congestion := by
  have hcongested : (s.dialled n).congested = true := by
    simpa [State.congested, State.dialled] using h
  exact (if_neg hallowed).trans ((if_pos hcongested).trans (State.toClearing_eq_clearing _ n _ _))

theorem State.completeNumber_of_clear (h : ¬ (s.highway.state = .down ∨ s.sli.controller = .lost)) :
    s.completeNumber n = (s.dialled n).supply n (queueClass ((s.dialled n).line n).planMatch) := by
  have hclear : ¬ (s.dialled n).congested = true := by
    simpa [State.congested, State.dialled] using h
  exact (if_neg hallowed).trans (if_neg hclear)

end

/-- Settles O46: the interdigit timer, then restriction, congestion and supply in turn. -/
theorem completionFollowsItsSteps : Obligations.CompletionFollowsItsSteps := by
  unfold Obligations.CompletionFollowsItsSteps
  intro s n left v important
  have hv : s.dialled n = v := State.setTone_eq_modLine left n none
  have himportant : matchIs .priority ((s.dialled n).line n).planMatch = true ↔ important := by rw [hv]; exact matchIs_iff
  refine ⟨fun x hdial hx => ?_, fun hnot => ?_, fun hrestricted hnormal => ?_, fun hallowed => ?_⟩
  · exact congrArg _ (if_pos ((State.timerRuns_iff s n _ _).2 ⟨hdial, x, hx⟩))
  · refine congrArg _ (if_neg fun hruns => ?_)
    obtain ⟨hdial, x, hx⟩ := (State.timerRuns_iff s n _ _).1 hruns
    exact hnot.elim (· hdial) (· x hx)
  · rw [← hv] at hrestricted ⊢
    exact State.complete_of_completeNumber
      (State.completeNumber_of_restricted hrestricted fun h => hnormal (himportant.1 h))
  · have hallowed' : ¬ (((s.dialled n).line n).restricted = true ∧
        ¬ matchIs .priority ((s.dialled n).line n).planMatch = true) := fun h => by
      rw [← hv] at hallowed
      exact hallowed.elim (fun hfree => by simp [hfree] at h) fun himp => h.2 (himportant.2 himp)
    refine ⟨fun hcongested => ?_, fun hup hpresent => ?_⟩
    · rw [← hv]
      exact State.complete_of_completeNumber (State.completeNumber_of_congested hallowed' hcongested)
    · have hclear : ¬ (s.highway.state = .down ∨ s.sli.controller = .lost) := by simp [hup, hpresent]
      rw [State.complete_of_completeNumber (State.completeNumber_of_clear hallowed' hclear), queueClass]
      refine ⟨fun himp => ?_, fun hnot => ?_⟩
      · rw [if_pos (himportant.2 himp), hv]
      · rw [if_neg fun h => hnot (himportant.1 h), hv]

/-! ### The supply of a completing line -/

theorem enqueue_normal (q : List (LineNo × QueueClass)) (n : LineNo) : enqueue q n .normal = q ++ [(n, .normal)] := by
  induction q with
  | nil => rfl
  | cons e rest ih =>
    rw [enqueue, if_neg (by simp), ih]
    rfl

/-- R78: a PRIORITY line stands behind those before it of its class and ahead of every NORMAL one. -/
theorem enqueue_priority {hi lo : List (LineNo × QueueClass)} (n : LineNo) (hhi : ∀ e ∈ hi, e.2 = .priority)
    (hlo : ∀ e, lo.head? = some e → e.2 = .normal) : enqueue (hi ++ lo) n .priority = hi ++ (n, .priority) :: lo := by
  induction hi with
  | nil =>
    cases lo with
    | nil => rfl
    | cons e rest => exact if_pos ⟨rfl, hlo e rfl⟩
  | cons e rest ih =>
    have he : ¬ ((QueueClass.priority = .priority) ∧ e.2 = .normal) := by simp [hhi e List.mem_cons_self]
    rw [List.cons_append, enqueue, if_neg he, ih fun x hx => hhi x (List.mem_cons_of_mem _ hx)]
    rfl

theorem State.joinQueue_eq_queued (s : State) (n : LineNo) (c : QueueClass) :
    s.joinQueue n c = queued s n (enqueue s.pool.queue n c) := by
  rw [State.joinQueue, State.startTimer, State.modLine_modLine]
  rfl

section

variable {s : State} {n : LineNo} {c : QueueClass}

theorem State.atItsPlace_of_joinQueue (h : s.supply n c = s.joinQueue n c) {hi lo : List (LineNo × QueueClass)}
    (hqueue : s.pool.queue = hi ++ lo) :
    (c = .normal → lo = [] → s.supply n c = queued s n (hi ++ [(n, c)])) ∧
      (c = .priority → (∀ e ∈ hi, e.2 = .priority) → (∀ e, lo.head? = some e → e.2 = .normal) →
        s.supply n c = queued s n (hi ++ (n, c) :: lo)) := by
  rw [h, State.joinQueue_eq_queued, hqueue]
  refine ⟨fun hc hlo => ?_, fun hc hhi hlo => ?_⟩
  · rw [hc, hlo, List.append_nil, enqueue_normal]
  · rw [hc, enqueue_priority n hhi hlo]

theorem State.supply_of_free {b : BearerNo} {rest : List BearerNo} (h : s.pool.freeList = b :: rest) :
    s.supply n c = granted { s with pool := { s.pool with freeList := rest } } n b := by
  rw [← State.grant_eq_granted]
  unfold State.supply
  rw [h]

variable (hfree : s.pool.freeList = [])
include hfree

theorem State.supply_of_yielding {t : TestContext} (ht : s.test = some t) (hyields : t.yields = true) :
    s.supply n c = granted (testAborted s t .giveUp) n t.bearer := by
  rw [← State.grant_eq_granted, ← State.abortTest_of_some ht]
  unfold State.supply
  rw [hfree, ht]
  exact if_pos hyields

theorem State.supply_of_preempted_test {t : TestContext} (ht : s.test = some t) (hyields : t.yields = false) :
    s.supply n .priority = granted (testAborted s t .preempt) n t.bearer := by
  rw [← State.grant_eq_granted, ← State.abortTest_of_some ht]
  unfold State.supply
  rw [hfree, ht]
  exact if_neg (by simp [hyields])

theorem State.supply_of_normal (h : ∀ t, s.test = some t → t.yields = false) :
    s.supply n .normal = s.joinQueue n .normal := by
  unfold State.supply
  rw [hfree]
  cases ht : s.test with
  | none => rfl
  | some t => exact if_neg (by simp [h t ht])

theorem State.supply_of_priority (ht : s.test = none) : s.supply n .priority = s.preemptAlert n := by
  unfold State.supply
  rw [hfree, ht]

end

theorem isOutstanding_eq_false {s : State} {p : AlertPos}
    (h : ∀ a, s.alertAt p = some a → a.state ≠ .queued ∧ a.state ≠ .placed) : isOutstanding (s.alertAt p) = false := by
  cases ha : s.alertAt p with
  | none => rfl
  | some a => exact a.state.outstanding_eq_false_iff.2 (h a ha)

/-- R75: the outstanding alert latest in acceptance order. -/
theorem State.newestOutstanding_of_last {s : State} {front back : List AlertPos} {p : AlertPos} {a : AlertRecord}
    (hsplit : s.ring.accepted = front ++ p :: back) (ha : s.alertAt p = some a)
    (hstate : a.state = .queued ∨ a.state = .placed)
    (hback : ∀ q ∈ back, ∀ b, s.alertAt q = some b → b.state ≠ .queued ∧ b.state ≠ .placed) :
    s.newestOutstanding = some p := by
  have hout : isOutstanding (s.alertAt p) = true := by
    rw [ha]
    exact a.state.outstanding_iff.2 hstate
  rw [State.newestOutstanding, hsplit, List.reverse_append, List.reverse_cons, List.append_assoc, List.find?_append,
    List.find?_eq_none.2 fun q hq => by simp [isOutstanding_eq_false (hback q (List.mem_reverse.1 hq))]]
  exact List.find?_cons_of_pos (p := fun q => isOutstanding (s.alertAt q)) hout

theorem State.newestOutstanding_eq_none {s : State}
    (h : ∀ q ∈ s.ring.accepted, ∀ b, s.alertAt q = some b → b.state ≠ .queued ∧ b.state ≠ .placed) :
    s.newestOutstanding = none :=
  List.find?_eq_none.2 fun q hq => by simp [isOutstanding_eq_false (h q (List.mem_reverse.1 hq))]

theorem State.preemptAlert_of_newest {s : State} {n : LineNo} {p : AlertPos} {a : AlertRecord}
    (h : s.newestOutstanding = some p) (ha : s.alertAt p = some a) :
    s.preemptAlert n = granted (s.endUnanswered p .aborted (some .preempted)) n a.bearer := by
  rw [← State.grant_eq_granted]
  unfold State.preemptAlert
  rw [h]
  dsimp only
  rw [ha]

theorem State.preemptAlert_of_none {s : State} {n : LineNo} (h : s.newestOutstanding = none) :
    s.preemptAlert n = s.joinQueue n .priority := by
  unfold State.preemptAlert
  rw [h]

/-- Settles O47: the sources of Table 4-3 in their order. -/
theorem supplyTakesTheFirstSource : Obligations.SupplyTakesTheFirstSource := by
  unfold Obligations.SupplyTakesTheFirstSource
  intro s n c atItsPlace
  have hplace (h : s.supply n c = s.joinQueue n c) : atItsPlace := fun hi lo => State.atItsPlace_of_joinQueue h
  refine ⟨fun b rest => State.supply_of_free, fun hfree => ⟨fun t ht => ⟨State.supply_of_yielding hfree ht,
    fun hyields hc => ?_, fun hyields hc => ?_⟩, fun ht => ⟨fun hc => ?_, fun hc => ⟨?_, fun hnone => ?_⟩⟩⟩⟩
  · rw [hc, State.supply_of_preempted_test hfree ht hyields]
  · refine hplace ?_
    rw [hc, State.supply_of_normal hfree fun x hx => by rw [← Option.some.inj (ht.symm.trans hx), hyields]]
  · refine hplace ?_
    rw [hc, State.supply_of_normal hfree fun x hx => by simp [ht] at hx]
  · intro front p back a hsplit ha hstate hback
    rw [hc, State.supply_of_priority hfree ht,
      State.preemptAlert_of_newest (State.newestOutstanding_of_last hsplit ha hstate hback) ha, State.endUnanswered_eq ha]
    rfl
  · refine hplace ?_
    rw [hc, State.supply_of_priority hfree ht, State.preemptAlert_of_none (State.newestOutstanding_eq_none hnone)]

/-! ### The state timers -/

theorem State.toLockout_eq_lockedOut (s : State) (n : LineNo) : s.toLockout n = lockedOut s n := by
  apply State.ext_of
  case line =>
    intro m
    rw [State.line_toLockout, lockedOut, State.line_modLine]
    rfl
  case tones => exact State.tones_toLockout s n
  all_goals simp [lockedOut, State.toLockout]

theorem State.endHowler_eq (s : State) (n : LineNo) : s.endHowler n =
    ({ s with tones := (s.setTone n none).tones } : State).modLine n fun r => { r with tone := none, timer := none } := by
  rw [State.endHowler, State.setTone_eq_modLine, State.stopTimer, State.setTone_tones_modLine s n n _ rfl,
    State.modLine_with_tones, State.modLine_modLine]

/-- Settles O48: each timer in the state its kind belongs to. -/
theorem stateTimersExpireInTheirStates : Obligations.StateTimersExpireInTheirStates := by
  unfold Obligations.StateTimersExpireInTheirStates
  intro s n runs
  have hruns (k : TimerKind) (c : CallState) : s.timerRuns n k c = true ↔ runs k c := State.timerRuns_iff s n k c
  have hstopped {k : TimerKind} {c : CallState} (h : ¬ runs k c) : ¬ s.timerRuns n k c = true := fun h' => h ((hruns k c).1 h')
  refine ⟨fun h => ?_, fun h => congrArg _ (if_neg (hstopped h)), fun h => ?_, fun h => congrArg _ (if_neg (hstopped h)),
    fun h => ?_, fun h => congrArg _ (if_neg (hstopped h)), fun h => ?_, fun h => congrArg _ (if_neg (hstopped h)),
    fun h => ?_, fun h => congrArg _ (if_neg (hstopped h))⟩
  · rw [← State.toLockout_eq_lockedOut]
    exact congrArg _ (if_pos ((hruns _ _).2 h))
  · rw [← State.toClearing_eq_clearing]
    exact congrArg _ (if_pos ((hruns _ _).2 h))
  · rw [← State.toClearing_eq_clearing]
    exact congrArg _ (if_pos ((hruns _ _).2 h))
  · rw [← State.toLockout_eq_lockedOut]
    exact congrArg _ (if_pos ((hruns _ _).2 h))
  · rw [← State.endHowler_eq]
    exact congrArg _ (if_pos ((hruns _ _).2 h))

end Sys2Proof.Machine

/-! PROOF. The ring queue and the placement try (R95 to R98), the bursts of a window (R94, R128) and the bearer test bit by
bit (R138 to R142). -/

namespace Sys2Proof.Machine

open Sys2Proof.Slice0

/-! ### The placement try -/

/-- R96: of the phases listed in ascending order the one whose window starts soonest, the lower number first. -/
theorem State.soonest_of_first {s : State} {l : List PhaseNo} {p : PhaseNo} (hl : l.Pairwise (· < ·)) (hp : p ∈ l)
    (hfirst : ∀ q ∈ l, s.untilWindow p < s.untilWindow q ∨ s.untilWindow p = s.untilWindow q ∧ p ≤ q) :
    s.soonest l = some p := by
  induction l with
  | nil => exact absurd hp List.not_mem_nil
  | cons x rest ih =>
    obtain ⟨hx, hrest⟩ := List.pairwise_cons.1 hl
    unfold State.soonest
    by_cases hmem : p ∈ rest
    · rw [ih hrest hmem fun q hq => hfirst q (List.mem_cons_of_mem _ hq)]
      refine if_neg fun hle => ?_
      obtain hlt | ⟨_, hpx⟩ := hfirst x List.mem_cons_self
      · omega
      · exact absurd (hx p hmem) (not_lt.2 hpx)
    · obtain rfl : p = x := (List.mem_cons.1 hp).resolve_right hmem
      cases hq : s.soonest rest with
      | none => rfl
      | some q =>
        refine if_pos ?_
        obtain hlt | ⟨heq, _⟩ := hfirst q (List.mem_cons_of_mem _ (State.soonest_mem hq))
        · exact hlt.le
        · exact heq.le

theorem State.phaseFor_of_soonest {s : State} {load : Nat} {p : PhaseNo} (hp : s.qualifies load p = true)
    (hfirst : ∀ q, s.qualifies load q = true →
      s.untilWindow p < s.untilWindow q ∨ s.untilWindow p = s.untilWindow q ∧ p ≤ q) : s.phaseFor load = some p :=
  State.soonest_of_first ((List.pairwise_lt_finRange 3).filter _)
    (List.mem_filter.2 ⟨List.mem_finRange p, hp⟩) fun q hq => hfirst q (List.mem_filter.1 hq).2

theorem State.phaseFor_eq_none {s : State} {load : Nat} (h : ∀ p, s.qualifies load p = false) : s.phaseFor load = none := by
  rw [State.phaseFor, List.filter_eq_nil_iff.2 fun p _ => by simp [h p]]
  rfl

/-- R96: the total recomputed, its largest phase load written out. -/
theorem State.qualifies_iff (s : State) (load : Nat) (p : PhaseNo) : s.qualifies load p = true ↔
    s.phaseLoad p + load ≤ s.ring.capacity ∧
      s.baseCost + s.feedCost + s.answerReserve
        + 3 * (max (s.phaseLoad 0 + if p = 0 then load else 0)
            (max (s.phaseLoad 1 + if p = 1 then load else 0) (s.phaseLoad 2 + if p = 2 then load else 0)))
        ≤ s.power.budget := by
  have hload (q : PhaseNo) : (if q = p then s.phaseLoad q + load else s.phaseLoad q) =
      s.phaseLoad q + if p = q then load else 0 := by
    by_cases h : q = p
    · rw [if_pos h, if_pos h.symm]
    · rw [if_neg h, if_neg (Ne.symm h), Nat.add_zero]
  rw [State.qualifies, decide_eq_true_eq, State.committedWith, largest, hload 0, hload 1, hload 2,
    show Config.ringReservePU = 3 from rfl, Nat.add_right_comm]

theorem State.tryPlacement_of_empty {s : State} (h : s.ringQueue = []) : s.tryPlacement = s := by
  rw [State.tryPlacement, h]
  rfl

section

variable {s : State} {pos : AlertPos} {rest : List AlertPos} {a : AlertRecord}

/-- R96: what placement writes. -/
theorem State.place_of_some (ha : s.alertAt pos = some a) (p : PhaseNo) : s.place pos p = { s with ring := { s.ring with
    alerts := s.ring.alerts.set pos.1 (some { a with
      state := .placed, phase := some p, reportPending := true
      burst := if s.untilWindow p = 0 then startBurst s.tones.cadences[a.cadence] s.now else none }) pos.2
    placed := s.ring.placed.erase pos ++ [pos] } } := by
  simp only [State.place, State.modAlert, ha, Option.map_some]
  rfl

/-- R98: what unplacing writes. -/
theorem State.unplace_of_some (ha : s.alertAt pos = some a) : s.unplace pos = { s with ring := { s.ring with
    placed := s.ring.placed.erase pos
    alerts := s.ring.alerts.set pos.1 (some
      { a with state := .queued, phase := none, burst := none, reportPending := true }) pos.2 } } := by
  simp only [State.unplace, State.modAlert, ha, Option.map_some]
  rfl

/-- R95, R96: placement takes the alert out of the ring queue. -/
theorem State.ringQueue_place (p : PhaseNo) : (s.place pos p).ringQueue = s.ringQueue.filter fun q => q ≠ pos := by
  rw [State.ringQueue, State.ringQueue, List.filter_filter]
  refine List.filter_congr fun q _ => ?_
  rw [State.alertAt_place]
  by_cases hq : q = pos
  · subst hq
    rw [if_pos rfl]
    cases s.alertAt q <;> simp [inState]
  · simp [hq]

variable (hqueue : s.ringQueue = pos :: rest)
include hqueue

theorem State.ringQueue_place_head (hmem : pos ∉ rest) (p : PhaseNo) : (s.place pos p).ringQueue = rest := by
  rw [State.ringQueue_place, hqueue, List.filter_cons_of_neg (by simp)]
  exact List.filter_eq_self.2 fun q hq => decide_eq_true fun heq => hmem (heq ▸ hq)

variable (ha : s.alertAt pos = some a)
include ha

theorem State.tryPlacement_of_no_phase (h : s.phaseFor a.load = none) : s.tryPlacement = s := by
  rw [State.tryPlacement, hqueue]
  unfold State.placeAlong
  rw [ha]
  dsimp only
  rw [h]

/-- R97: the head is placed, and the try is made again. -/
theorem State.tryPlacement_of_phase {p : PhaseNo} (hmem : pos ∉ rest) (h : s.phaseFor a.load = some p) :
    s.tryPlacement = (s.place pos p).tryPlacement := by
  rw [State.tryPlacement, hqueue, State.tryPlacement, State.ringQueue_place_head hqueue hmem]
  conv_lhs => unfold State.placeAlong
  rw [ha]
  dsimp only
  rw [h]

end

/-- R95, R98: an alert that is unplaced stands in the ring queue between those accepted before it and after it. -/
theorem State.ringQueue_unplace {s : State} {front back : List AlertPos} {pos : AlertPos} {a : AlertRecord}
    (hsplit : s.ring.accepted = front ++ pos :: back) (hfront : pos ∉ front) (hback : pos ∉ back)
    (ha : s.alertAt pos = some a) (hplaced : a.state = .placed) :
    s.ringQueue = front.filter (fun p => inState .queued (s.alertAt p)) ++
        back.filter (fun p => inState .queued (s.alertAt p)) ∧
      (s.unplace pos).ringQueue = front.filter (fun p => inState .queued (s.alertAt p)) ++
        pos :: back.filter (fun p => inState .queued (s.alertAt p)) := by
  have hsame (l : List AlertPos) (hl : pos ∉ l) : l.filter (fun p => inState .queued ((s.unplace pos).alertAt p)) =
      l.filter fun p => inState .queued (s.alertAt p) :=
    List.filter_congr fun q hq => by rw [State.alertAt_unplace, if_neg fun heq : q = pos => hl (heq ▸ hq)]
  have hafter : inState .queued ((s.unplace pos).alertAt pos) = true := by
    rw [State.alertAt_unplace, if_pos rfl, ha]
    rfl
  have hbefore : ¬ inState .queued (s.alertAt pos) = true := by simp [inState, ha, hplaced]
  refine ⟨?_, ?_⟩
  · rw [State.ringQueue, hsplit, List.filter_append, List.filter_cons_of_neg (by simpa using hbefore)]
  · rw [State.ringQueue, show (s.unplace pos).ring.accepted = s.ring.accepted from rfl, hsplit, List.filter_append,
      List.filter_cons_of_pos (by simpa using hafter), hsame front hfront, hsame back hback]

/-- Settles O49: the ring queue before and after an unplacing, then the try at the head by the phases that qualify. -/
theorem placementTakesTheSoonestQualifyingPhase : Obligations.PlacementTakesTheSoonestQualifyingPhase := by
  unfold Obligations.PlacementTakesTheSoonestQualifyingPhase
  intro s away fits
  have hfits (load : Nat) (p : PhaseNo) : s.qualifies load p = true ↔ fits load p := s.qualifies_iff load p
  refine ⟨?_, fun front pos back a hsplit hfront hback ha hplaced => ?_, State.tryPlacement_of_empty,
    fun pos rest a hqueue hmem ha => ⟨fun hnone => ?_, fun p hp hfirst => ?_⟩⟩
  · refine List.filter_congr fun p _ => ?_
    cases s.alertAt p with
    | none => rfl
    | some a => rfl
  · obtain ⟨hbefore, hafter⟩ := State.ringQueue_unplace hsplit hfront hback ha hplaced
    exact ⟨_, _, hbefore, List.filter_sublist, List.filter_sublist, State.unplace_of_some ha, hafter⟩
  · exact State.tryPlacement_of_no_phase hqueue ha
      (State.phaseFor_eq_none fun p => Bool.eq_false_iff.2 fun h => hnone p ((hfits _ _).1 h))
  · have hphase : s.phaseFor a.load = some p :=
      State.phaseFor_of_soonest ((hfits _ _).2 hp) fun q hq => hfirst q ((hfits _ _).1 hq)
    rw [State.tryPlacement_of_phase hqueue ha hmem hphase, State.place_of_some ha]
    rfl

/-! ### Bursts -/

/-- R94: the record of an alert as a window of a phase starts. -/
def AlertRecord.atWindow (tones : Tones) (now : Nat) (phase : PhaseNo) (a : AlertRecord) : AlertRecord :=
  if a.state = .placed ∧ a.phase = some phase then { a with burst := startBurst tones.cadences[a.cadence] now } else a

theorem State.setAlert_self (s : State) (pos : AlertPos) : s.setAlert pos (s.alertAt pos) = s := by
  simp [State.setAlert, State.alertAt]

theorem State.startBurstAt_eq (s : State) (phase : PhaseNo) (pos : AlertPos) :
    s.startBurstAt phase pos = s.modAlert pos (AlertRecord.atWindow s.tones s.now phase) := by
  have hself := State.setAlert_self s pos
  unfold State.startBurstAt State.modAlert
  cases ha : s.alertAt pos with
  | none =>
    rw [ha] at hself
    exact hself.symm
  | some a =>
    rw [ha] at hself
    simp only [Option.map_some, AlertRecord.atWindow]
    split
    · rfl
    · exact hself.symm

/-- R94: the window start takes every position listed once. -/
theorem State.startBursts {l : List AlertPos} (hl : l.Nodup) (s : State) (phase : PhaseNo) : ∃ alerts,
    l.foldl (fun t pos => t.startBurstAt phase pos) s = { s with ring := { s.ring with alerts := alerts } } ∧
      ∀ p : AlertPos, alerts[p] =
        if p ∈ l then (s.alertAt p).map (AlertRecord.atWindow s.tones s.now phase) else s.alertAt p := by
  induction l generalizing s with
  | nil => exact ⟨s.ring.alerts, rfl, fun p => rfl⟩
  | cons pos rest ih =>
    obtain ⟨hpos, hrest⟩ := List.nodup_cons.1 hl
    obtain ⟨alerts, hfold, halerts⟩ := ih hrest (s.modAlert pos (AlertRecord.atWindow s.tones s.now phase))
    refine ⟨alerts, ?_, fun p => (halerts p).trans ?_⟩
    · rw [List.foldl_cons, State.startBurstAt_eq]
      exact hfold
    · rw [State.alertAt_modAlert]
      by_cases h : p = pos
      · subst h
        simp [hpos]
      · simp only [List.mem_cons, h, false_or, if_false]
        rfl

theorem exec_ringSegmentEnd_of_none {s : State} {p : AlertPos} (h : s.alertAt p = none) :
    exec (.ringSegmentEnd p) s = .next s := by
  show Host.Outcome.next (s.setAlert p ((s.alertAt p).map _)) = _
  rw [h, Option.map_none, ← h, State.setAlert_self]

theorem exec_ringSegmentEnd_of_some {s : State} {p : AlertPos} {a : AlertRecord} (h : s.alertAt p = some a) :
    exec (.ringSegmentEnd p) s = .next (s.setAlert p (some { a with burst := a.burst.bind Burst.advance })) := by
  show Host.Outcome.next (s.setAlert p ((s.alertAt p).map _)) = _
  rw [h]
  rfl

theorem Burst.advance_of_next {b : Burst} {d : Nat} (h : b.segments[b.segment + 1]? = some d) :
    b.advance = some { segments := b.segments, segment := b.segment + 1, ends := b.ends + d } := by
  unfold Burst.advance
  rw [h]

theorem Burst.advance_of_last {b : Burst} (h : b.segments.length ≤ b.segment + 1) : b.advance = none := by
  unfold Burst.advance
  rw [List.getElem?_eq_none h]

/-- Settles O50: the window start position by position, then the end of a segment. -/
theorem windowStartsBurstsAndSegmentsFollow : Obligations.WindowStartsBurstsAndSegmentsFollow := by
  unfold Obligations.WindowStartsBurstsAndSegmentsFollow
  intro s phase
  refine ⟨fun hmode => ?_, fun hmode => ?_, fun p => ⟨exec_ringSegmentEnd_of_none, fun a ha => ⟨fun hnone => ?_,
    fun b hb => ⟨fun d hd => ?_, fun hlast => ?_⟩⟩⟩⟩
  · show Host.Outcome.next (s.startWindow phase) = _
    unfold State.startWindow
    rw [hmode]
  · obtain ⟨alerts, hfold, halerts⟩ := State.startBursts (List.nodup_finRange 8) { s with ring := { s.ring with
      windowTaken := s.ring.windowTaken || decide (s.ring.clock = windowStart phase) } } phase
    refine ⟨alerts, ?_, fun p => (halerts p).trans ?_⟩
    · show Host.Outcome.next (s.startWindow phase) = _
      unfold State.startWindow
      rw [hmode]
      exact congrArg _ hfold
    · rw [if_pos (List.mem_finRange p)]
      rfl
  · rw [exec_ringSegmentEnd_of_some ha, hnone, Option.bind_none, ← hnone, ← ha, State.setAlert_self]
  · rw [exec_ringSegmentEnd_of_some ha, hb, Option.bind_some, Burst.advance_of_next hd]
  · rw [exec_ringSegmentEnd_of_some ha, hb, Option.bind_some, Burst.advance_of_last hlast]

/-! ### The bearer test -/

theorem shifted_shiftIn (r : BitVec 15) (b : Bool) : shifted r b (shiftIn r b) := by
  cases b with
  | false => exact ⟨by simp [shiftIn], fun k hk => by simp [shiftIn]; omega⟩
  | true => exact ⟨by simp [shiftIn], fun k hk => by simp [shiftIn]; omega⟩

section

variable {t : TestContext} {bit : Bool}

/-- R139: HUNTING, the checker reads a bit into its register while that fills. -/
theorem TestContext.readBit_of_filling (hunting : t.locked = false) (h : t.checker.filled < 15) : t.readBit bit =
    { t with checker := { t.checker with register := shiftIn t.checker.register bit, filled := t.checker.filled + 1 } } := by
  simp only [TestContext.readBit, Checker.hunt, hunting, h, if_true, Bool.false_eq_true, if_false]

/-- R139: HUNTING with a full register, the run of correct predictions short of 32. -/
theorem TestContext.readBit_of_run {run : Nat} (hunting : t.locked = false) (hfull : 15 ≤ t.checker.filled)
    (hrun : (if feedback t.checker.register = bit then
      (if t.checker.register = 0 then t.checker.run else t.checker.run + 1) else 0) = run) (h : run < 32) :
    t.readBit bit =
      { t with checker := { t.checker with register := shiftIn t.checker.register bit, run := run } } := by
  simp only [TestContext.readBit, Checker.hunt, hunting, Nat.not_lt.2 hfull, hrun, Nat.not_le.2 h, if_false,
    Bool.false_eq_true]

/-- R139: the 32nd correct prediction locks the checker. -/
theorem TestContext.readBit_of_lock {run : Nat} (hunting : t.locked = false) (hfull : 15 ≤ t.checker.filled)
    (hrun : (if feedback t.checker.register = bit then
      (if t.checker.register = 0 then t.checker.run else t.checker.run + 1) else 0) = run) (h : 32 ≤ run) :
    t.readBit bit = { t with
      locked := true
      checker := { t.checker with register := shiftIn t.checker.register bit, run := run, window := [] } } := by
  simp only [TestContext.readBit, Checker.hunt, hunting, Nat.not_lt.2 hfull, hrun, h, if_false, if_true,
    Bool.false_eq_true, TestContext.takeLock]

variable (hlocked : t.locked = true)
include hlocked

theorem TestContext.readBit_of_match (h : feedback t.checker.register = bit) : t.readBit bit =
    { t with checker := { t.checker with
      register := shiftIn t.checker.register (feedback t.checker.register)
      window := (false :: t.checker.window).take 64 } } := by
  simp only [TestContext.readBit, Checker.follow, hlocked, h, if_true, ne_eq, not_true_eq_false, decide_false]

theorem TestContext.readBit_of_error (h : feedback t.checker.register ≠ bit)
    (hfew : ((true :: t.checker.window).take 64).count true < 8) : t.readBit bit = { t with
      errorCount := min 255 (t.errorCount + 1)
      checker := { t.checker with
        register := shiftIn t.checker.register (feedback t.checker.register)
        window := (true :: t.checker.window).take 64 } } := by
  simp only [TestContext.readBit, Checker.follow, hlocked, h, if_true, if_false, ne_eq, not_false_eq_true, decide_true,
    Nat.not_le.2 hfew, TestContext.takeError]

theorem TestContext.readBit_of_lost (h : feedback t.checker.register ≠ bit)
    (hmany : 8 ≤ ((true :: t.checker.window).take 64).count true) : t.readBit bit = { t with
      locked := false, errorCount := min 255 (t.errorCount + 1)
      checker := { register := 0, filled := 0, run := 0, window := [] } } := by
  simp only [TestContext.readBit, Checker.follow, hlocked, h, if_true, if_false, ne_eq, not_false_eq_true, decide_true,
    hmany, TestContext.takeError, TestContext.takeLockLost, Checker.hunting]

end

theorem State.modTest_of_none {s : State} (h : s.test = none) (f : TestContext → TestContext) : s.modTest f = s := by
  rw [State.modTest, h, Option.map_none, ← h]

theorem State.modTest_of_some {s : State} {t : TestContext} (h : s.test = some t) (f : TestContext → TestContext) :
    s.modTest f = { s with test := some (f t) } := by
  rw [State.modTest, h, Option.map_some]

/-- With no test running none of the tester's events has an effect (log entry 27). -/
theorem exec_tester_of_none {s : State} (h : s.test = none) : exec .testDurationExpiry s = .next s ∧
    exec .testInjection s = .next s ∧ exec .lock s = .next s ∧ exec .bitError s = .next s ∧ exec .lockLost s = .next s := by
  refine ⟨?_, congrArg _ (State.modTest_of_none h _), congrArg _ (State.modTest_of_none h _),
    congrArg _ (State.modTest_of_none h _), congrArg _ (State.modTest_of_none h _)⟩
  show Host.Outcome.next s.endTest = _
  unfold State.endTest
  rw [h]

/-- R141: the result is written; a test that passes hands its bearer back, one that fails takes it DOWN. -/
theorem State.endTest_of_some {s : State} {t : TestContext} (h : s.test = some t) :
    let ended := ({ s with test := none } : State).modBearer t.bearer fun r =>
      { r with outcome := t.outcome, abortCause := none, errorCount := t.errorCount, locked := t.locked,
               events := addKind BearerEvent.all .testEnded r.events }
    (t.outcome = .pass → s.endTest = ended.enterFree t.bearer) ∧
    (t.outcome = .fail → s.endTest = ended.modBearer t.bearer fun r =>
      { r with state := .down, downReason := some .testFailed, holder := none }) := by
  intro ended
  have hended : (({ s with test := none } : State).modBearer t.bearer fun b => b.withResult t.outcome none t).addBearerEvent
      t.bearer .testEnded = ended := by
    rw [State.addBearerEvent, State.modBearer_modBearer]
    rfl
  unfold State.endTest
  rw [h]
  dsimp only
  rw [hended]
  refine ⟨fun hpass => ?_, fun hfail => ?_⟩
  · rw [hpass]
  · rw [hfail]

/-- Settles O52: the tester's events, then the bits of the generator and the checker. -/
theorem testCountsReportsAndEndsWithItsOutcome : Obligations.TestCountsReportsAndEndsWithItsOutcome := by
  unfold Obligations.TestCountsReportsAndEndsWithItsOutcome
  refine ⟨fun s => ⟨exec_tester_of_none, fun t ht => ?_⟩, fun t fresh k bit => ?_⟩
  · intro ended
    obtain ⟨hpass, hfail⟩ := State.endTest_of_some ht
    have hmod (f : TestContext → TestContext) {u : TestContext} (h : f t = u) :
        Host.Outcome.next (s.modTest f) = (.next { s with test := some u } : Host.Outcome State Fault Refusal) := by
      rw [State.modTest_of_some ht, h]
    have hsame {f : TestContext → TestContext} (h : f t = t) :
        Host.Outcome.next (s.modTest f) = (.next s : Host.Outcome State Fault Refusal) := by
      rw [State.modTest_of_some ht, h, ← ht]
    refine ⟨fun hlocked hfew => ?_, fun hbad => ?_, fun hinject => hmod _ (if_pos hinject),
      fun hinject => hsame (if_neg (by simp [hinject])), hmod _ rfl, fun hlocked => hmod _ (if_pos hlocked),
      fun hlocked => hsame (if_neg (by simp [hlocked])), hmod _ rfl⟩
    · have hout : t.outcome = .pass := if_pos ⟨hlocked, hfew⟩
      rw [hout] at hpass
      exact congrArg _ (hpass rfl)
    · have hout : t.outcome = .fail := if_neg fun h => hbad.elim (fun hfree => by simp [hfree] at h) h.2.not_gt
      rw [hout] at hfail
      exact congrArg _ (hfail rfl)
  · intro c expected
    have hexpected (h : bit = expected) : feedback c.register = bit := h.symm
    have hother (h : bit ≠ expected) : feedback c.register ≠ bit := h.symm
    refine ⟨rfl, rfl, ⟨_, shifted_shiftIn _ _, rfl⟩, fun hunting => ⟨_, shifted_shiftIn _ _,
      TestContext.readBit_of_filling hunting, fun hfull => ⟨fun h => ?_, fun h hzero hrun => ?_, fun h hnonzero hrun => ?_,
      fun h hnonzero hrun => ?_⟩⟩, fun hlocked => ⟨_, shifted_shiftIn _ _, fun h => ?_, fun h => ?_, fun h => ?_⟩⟩
    · exact TestContext.readBit_of_run hunting hfull (if_neg (hother h)) (by decide)
    · exact TestContext.readBit_of_run hunting hfull (by rw [if_pos (hexpected h), if_pos hzero]) hrun
    · exact TestContext.readBit_of_run hunting hfull (by rw [if_pos (hexpected h), if_neg hnonzero]) hrun
    · exact TestContext.readBit_of_lock hunting hfull (by rw [if_pos (hexpected h), if_neg hnonzero]) hrun
    · exact TestContext.readBit_of_match hlocked (hexpected h)
    · exact TestContext.readBit_of_error hlocked (hother h)
    · exact TestContext.readBit_of_lost hlocked (hother h)

end Sys2Proof.Machine

/-! PROOF. The highway's pulses, losses and restore (R147, R148, R151, R152), the supervision timeout (R154) and the wake
by a line or by the limit timer (R20, R160 to R162). -/

namespace Sys2Proof.Machine

open Sys2Proof.Slice0

/-! ### The highway -/

section

variable {s : State}

theorem exec_highway_of_conserve (h : s.mode.mode = .conserve) :
    exec .framePulse s = .next s ∧ exec .highwayLoss s = .next s := by
  refine ⟨?_, ?_⟩
  · show Host.Outcome.next s.pulse = _
    unfold State.pulse
    rw [h]
  · show Host.Outcome.next s.loss = _
    unfold State.loss
    rw [h]

section

variable (hmode : s.mode.mode = .active)
include hmode

/-- R147: in ACTIVE a pulse is what the next loss is measured from, and may start the restore timer. -/
theorem exec_framePulse_of_active : exec .framePulse s = .next { s with highway := { s.highway with
    lossFrom := some s.now
    restore := if s.highway.state ≠ .up ∧ s.highway.restore = none then some (s.now + 100) else s.highway.restore } } := by
  show Host.Outcome.next s.pulse = _
  unfold State.pulse
  rw [hmode]
  rfl

theorem exec_highwayLoss_of_up (h : s.highway.state = .up) : exec .highwayLoss s = .next { s with
    highway := { s.highway with state := .hit, grace := some (s.now + 2000), lossFrom := none }
    sli := { s.sli with events := addKind PartEvent.all .highwayHit s.sli.events } } := by
  show Host.Outcome.next s.loss = _
  unfold State.loss
  rw [hmode, h]
  rfl

theorem exec_highwayLoss_of_not_up (h : s.highway.state ≠ .up) : exec .highwayLoss s =
    .next { s with highway := { s.highway with restore := none, lossFrom := none } } := by
  show Host.Outcome.next s.loss = _
  unfold State.loss
  cases hstate : s.highway.state with
  | up => exact absurd hstate h
  | hit => rw [hmode]
  | down => rw [hmode]

end

theorem exec_highwayRestore_of_none (h : s.highway.restore = none ∨ s.highway.state = .up) :
    exec .highwayRestore s = .next s := by
  show Host.Outcome.next s.restoreHighway = _
  unfold State.restoreHighway
  obtain h | h := h
  · rw [h]
  · rw [h]
    cases s.highway.restore with
    | none => rfl
    | some x => rfl

variable (hrestore : s.highway.restore ≠ none)
include hrestore

theorem exec_highwayRestore_of_hit (h : s.highway.state = .hit) : exec .highwayRestore s =
    .next { s with highway := { s.highway with state := .up, grace := none, restore := none } } := by
  obtain ⟨x, hx⟩ := Option.ne_none_iff_exists'.1 hrestore
  show Host.Outcome.next s.restoreHighway = _
  unfold State.restoreHighway
  rw [hx, h]

theorem exec_highwayRestore_of_down (h : s.highway.state = .down) : exec .highwayRestore s =
    .next (allBearers.foldl State.restoreBearer { s with
      highway := { s.highway with state := .up, grace := none, restore := none }
      sli := { s.sli with events := addKind PartEvent.all .highwayUp s.sli.events } }) := by
  obtain ⟨x, hx⟩ := Option.ne_none_iff_exists'.1 hrestore
  show Host.Outcome.next s.restoreHighway = _
  unfold State.restoreHighway
  rw [hx, h]
  rfl

end

theorem foldl_restoreBearer (l : List BearerNo) (s : State) : l.foldl State.restoreBearer s = restored s l := by
  induction l generalizing s with
  | nil => rfl
  | cons b rest ih => exact ih _

/-- Settles O53: what is seen in each mode, then the restore in HIT and in DOWN. -/
theorem highwayFollowsPulsesAndLosses : Obligations.HighwayFollowsPulsesAndLosses := by
  unfold Obligations.HighwayFollowsPulsesAndLosses
  intro s
  refine ⟨exec_highway_of_conserve, fun hmode => ⟨fun hdown hstopped => ?_, fun hkept => ?_, exec_highwayLoss_of_up hmode,
    exec_highwayLoss_of_not_up hmode⟩, exec_highwayRestore_of_none, fun hrestore => ⟨exec_highwayRestore_of_hit hrestore,
    fun hdown => ?_⟩⟩
  · rw [exec_framePulse_of_active hmode, if_pos ⟨hdown, hstopped⟩]
  · rw [exec_framePulse_of_active hmode, if_neg fun h => hkept.elim h.1 fun hruns => hruns h.2]
  · rw [exec_highwayRestore_of_down hrestore hdown, foldl_restoreBearer]
    rfl

/-! ### The supervision timeout -/

theorem foldl_toClearing (l : List (LineNo × QueueClass)) (s : State) :
    l.foldl (fun t e => t.toClearing e.1 (some .congestion) .congestion) s = flushed s l := by
  induction l generalizing s with
  | nil => rfl
  | cons e rest ih =>
    rw [List.foldl_cons, State.toClearing_eq_clearing]
    exact ih _

theorem State.flushQueue_eq (s : State) :
    s.flushQueue = flushed { s with pool := { s.pool with queue := [] } } s.pool.queue :=
  foldl_toClearing _ _

/-- Settles O55: a timer that runs makes the controller LOST and flushes the queue. -/
theorem supervisionTimeoutLosesTheController : Obligations.SupervisionTimeoutLosesTheController := by
  unfold Obligations.SupervisionTimeoutLosesTheController
  intro s
  refine ⟨fun h => congrArg Host.Outcome.next (if_pos h), fun h => ?_⟩
  show Host.Outcome.next s.supervisionExpires = _
  rw [State.supervisionExpires, if_neg h, State.flushQueue_eq]
  rfl

/-! ### The wake -/

section

variable {s : State} {n : LineNo}

/-- R161: a wake that no frame makes restarts the supervision of a PRESENT controller itself. -/
theorem State.wake_eq_woken {c : WakeCause} (hc : c ≠ .controller) : s.wake c = woken s c := by
  unfold State.wake State.resumeSupervision woken
  cases hcontroller : s.sli.controller with
  | lost =>
    dsimp only
    rw [if_neg (by simp [hcontroller]), if_pos rfl]
    rfl
  | present =>
    dsimp only
    rw [if_pos ⟨hc, hcontroller⟩, if_neg (by simp)]
    rfl

theorem State.wakeIfConserving_of_conserve (h : s.mode.mode = .conserve) {c : WakeCause} (hc : c ≠ .controller) :
    s.wakeIfConserving c = woken s c := by
  unfold State.wakeIfConserving
  rw [h]
  exact State.wake_eq_woken hc

/-- R6, R20: in conserve mode the OFF transition of an energized line wakes the part, and is then recorded and
classified. -/
theorem exec_offTransition_of_conserve {t : Nat} (hmode : s.mode.mode = .conserve)
    (hen : (s.line n).callState ≠ .deenergized) (hook : (s.scan n).hook = .on) (hdated : dated s n t)
    (hidle : ((woken s (.line n)).line n).callState = .idle) :
    exec (.offTransition n) s = .next ((offAt (woken s (.line n)) n t).originate n) := by
  show Host.Outcome.next (s.offTransition n) = _
  rw [State.offTransition, if_neg (by simp [hen, hook]), State.transitionTime_of_dated hdated]
  dsimp only
  rw [State.wakeIfConserving_of_conserve hmode (by simp), State.releaseLongBreak_of_short (.inr (by rw [hidle]; rfl))]
  exact congrArg _ (State.classifyOff_of_idle (s := offAt (woken s (.line n)) n t) (by rw [line_offAt, hidle]) _)

end

/-- Settles O56: the limit timer, then the OFF transition taken at once or handed over. -/
theorem limitTimerOrLineWakesThePart : Obligations.LimitTimerOrLineWakesThePart := by
  unfold Obligations.LimitTimerOrLineWakesThePart
  intro s
  refine ⟨fun hmode hlimit => ?_, fun h => ?_, fun n hmode => ⟨fun t => exec_offTransition_of_conserve hmode, ?_⟩⟩
  · rw [← State.wakeIfConserving_of_conserve hmode (by simp)]
    exact congrArg Host.Outcome.next (if_neg hlimit)
  · show Host.Outcome.next (if s.mode.limit = none then s else s.wakeIfConserving .timer) = _
    obtain hactive | hnone := h
    · rw [State.wakeIfConserving_of_active hactive, ite_self]
    · rw [if_pos hnone]
  · intro w
    have hw : s.takeHanded (.off n) = w.takeOff n := by
      rw [State.takeHanded, State.wakeIfConserving_of_conserve (s := s.unhand (.off n)) hmode (by simp)]
      rfl
    rw [hw]
    exact ⟨State.takeOff_of_idle, State.takeOff_of_deenergized⟩

end Sys2Proof.Machine

/-! PROOF. The highway goes DOWN at the expiry of the grace timer: what becomes of the test, the alerts, the lines, the
seizure queue and the bearers (R32, R85, R105, R107, R142, R149). -/

namespace Sys2Proof.Machine

open Sys2Proof.Slice0

/-! ### A list gone over, read at one of its members -/

section

variable {α β : Type} {f : State → α → State} {read : State → β} {key : α} (hother : ∀ s a, a ≠ key → read (f s a) = read s)
include hother

theorem foldl_read_of_not_mem {l : List α} (h : key ∉ l) (s : State) : read (l.foldl f s) = read s := by
  induction l generalizing s with
  | nil => rfl
  | cons a rest ih =>
    obtain ⟨hne, hrest⟩ := List.ne_and_not_mem_of_not_mem_cons h
    exact (ih hrest _).trans (hother s a hne.symm)

/-- The change that a member makes to what is read of it stands, however often the list names it. -/
theorem foldl_read_of_mem {inv : State → Prop} {g : β → β} (hinv : ∀ s a, inv s → inv (f s a))
    (hkey : ∀ s, inv s → read (f s key) = g (read s)) (hg : ∀ r, g (g r) = g r) {l : List α} (h : key ∈ l) {s : State}
    (hs : inv s) : read (l.foldl f s) = g (read s) := by
  induction l generalizing s with
  | nil => exact absurd h List.not_mem_nil
  | cons a rest ih =>
    by_cases ha : a = key
    · subst ha
      by_cases hrest : a ∈ rest
      · rw [List.foldl_cons, ih hrest (hinv s a hs), hkey s hs, hg]
      · rw [List.foldl_cons, foldl_read_of_not_mem hother hrest, hkey s hs]
    · rw [List.foldl_cons, ih ((List.mem_cons.1 h).resolve_left (Ne.symm ha)) (hinv s a hs), hother s a ha]

end

/-! ### The alerts -/

/-- R107: the record of an alert as the highway goes DOWN. -/
def AlertRecord.downed (a : AlertRecord) : AlertRecord :=
  if a.state = .queued ∨ a.state = .placed then a.ended .aborted (some .highway) none else a

theorem AlertRecord.downed_downed (a : AlertRecord) : a.downed.downed = a.downed := by
  by_cases h : a.state = .queued ∨ a.state = .placed
  · simp [AlertRecord.downed, h, AlertRecord.ended]
  · simp [AlertRecord.downed, h]

/-- R105.3: the record of a member that has returned to IDLE. -/
def LineRecord.returned (r : LineRecord) : LineRecord :=
  LineRecord.idled { r with tone := none, feed := .sense }

/-- Whether a line is a member of an outstanding alert at a position. -/
def State.memberAt (s : State) (p : AlertPos) (n : LineNo) : Prop :=
  ∃ a, s.alertAt p = some a ∧ (a.state = .queued ∨ a.state = .placed) ∧ n ∈ a.members

section

variable {s : State} {n : LineNo}

theorem State.line_returnMember_of_ne {m : LineNo} (h : n ≠ m) : (s.returnMember m).line n = s.line n := by
  unfold State.returnMember
  split
  · rw [State.line_toIdle, if_neg h]
  · rfl

theorem State.line_returnMembers_of_not {ns : List LineNo} (h : (s.line n).callState ≠ .alerted ∨ n ∉ ns) :
    (s.returnMembers ns).line n = s.line n := by
  by_cases hmem : n ∈ ns
  · have hstate := h.resolve_right (not_not.2 hmem)
    refine foldl_read_of_mem (read := fun u => u.line n) (g := id) (inv := fun u => (u.line n).callState ≠ .alerted)
      (fun _ _ hne => State.line_returnMember_of_ne hne.symm) (fun u a hu => ?_) (fun u hu => ?_) (fun _ => rfl) hmem hstate
    · by_cases ha : n = a
      · subst ha
        rwa [State.returnMember, if_neg hu]
      · rwa [State.line_returnMember_of_ne ha]
    · rw [State.returnMember, if_neg hu]
      rfl
  · exact foldl_read_of_not_mem (read := fun u => u.line n) (fun _ _ hne => State.line_returnMember_of_ne hne.symm) hmem s

theorem State.line_returnMembers_of_mem {ns : List LineNo} (halerted : (s.line n).callState = .alerted) (h : n ∈ ns) :
    (s.returnMembers ns).line n = (s.line n).returned := by
  have hkey (u : State) : (u.returnMember n).line n =
      if (u.line n).callState = .alerted then (u.line n).returned else u.line n := by
    unfold State.returnMember
    split
    · rw [State.line_toIdle, if_pos rfl]
      rfl
    · rfl
  have hfold := foldl_read_of_mem (f := State.returnMember) (read := fun u => u.line n) (inv := fun _ => True)
    (g := fun r => if r.callState = .alerted then r.returned else r)
    (fun _ _ hne => State.line_returnMember_of_ne hne.symm) (fun _ _ _ => trivial) (fun u _ => hkey u) (fun r => ?_) h
    (s := s) trivial
  · exact hfold.trans (if_pos halerted)
  · by_cases hr : r.callState = .alerted
    · simp [hr, LineRecord.returned, LineRecord.idled]
    · simp [hr]

/-- R112: the line that returns is the only one to leave the feed roll. -/
theorem State.roll_returnMembers {ns : List LineNo} (h : (s.line n).callState ≠ .alerted) :
    (s.returnMembers ns).power.roll.count n = s.power.roll.count n := by
  induction ns generalizing s with
  | nil => rfl
  | cons m rest ih =>
    have hline : (s.returnMember m).line n = s.line n := State.line_returnMembers_of_not (ns := [m]) (.inl h)
    refine (ih (by rwa [hline])).trans ?_
    unfold State.returnMember
    split
    next hm =>
      have hne : n ≠ m := fun heq => h (heq ▸ hm)
      rw [State.power_toIdle]
      exact List.count_erase_of_ne hne
    next => rfl

theorem State.waitList_returnMembers (ns : List LineNo) (s : State) :
    (s.returnMembers ns).power.waitList = s.power.waitList :=
  foldl_keeps (fun u => u.power.waitList) _ (fun u m => by
    unfold State.returnMember
    split
    · rw [State.power_toIdle]
    · rfl) ns s

end

section

variable {s : State} {p : AlertPos}

/-- What the end of an outstanding alert writes before its members return. -/
def State.alertDowned (s : State) (p : AlertPos) (a : AlertRecord) : State :=
  { s with ring := { s.ring with
    alerts := s.ring.alerts.set p.1 (some (a.ended .aborted (some .highway) none)) p.2
    placed := s.ring.placed.erase p } }

theorem State.downAlert_of_outstanding {a : AlertRecord} (ha : s.alertAt p = some a)
    (hstate : a.state = .queued ∨ a.state = .placed) : s.downAlert p = (s.alertDowned p a).returnMembers a.members := by
  have hout : isOutstanding (s.alertAt p) = true := by
    rw [ha]
    exact a.state.outstanding_iff.2 hstate
  rw [State.downAlert, if_pos hout, State.endUnanswered_eq ha]
  rfl

theorem State.downAlert_of_not (h : ∀ a, s.alertAt p = some a → ¬ (a.state = .queued ∨ a.state = .placed)) :
    s.downAlert p = s := by
  rw [State.downAlert, isOutstanding_eq_false fun a ha => not_or.1 (h a ha)]
  rfl

/-- Either there is an outstanding alert at the position, or nothing happens at it. -/
theorem State.downAlert_cases (s : State) (p : AlertPos) :
    (∃ a, s.alertAt p = some a ∧ (a.state = .queued ∨ a.state = .placed) ∧
      s.downAlert p = (s.alertDowned p a).returnMembers a.members) ∨
    (∀ a, s.alertAt p = some a → ¬ (a.state = .queued ∨ a.state = .placed)) ∧ s.downAlert p = s := by
  by_cases h : ∃ a, s.alertAt p = some a ∧ (a.state = .queued ∨ a.state = .placed)
  · obtain ⟨a, ha, hstate⟩ := h
    exact .inl ⟨a, ha, hstate, State.downAlert_of_outstanding ha hstate⟩
  · have hnot : ∀ a, s.alertAt p = some a → ¬ (a.state = .queued ∨ a.state = .placed) := fun a ha hstate => h ⟨a, ha, hstate⟩
    exact .inr ⟨hnot, State.downAlert_of_not hnot⟩

theorem State.alertAt_returnMembers (s : State) (ns : List LineNo) (q : AlertPos) :
    (s.returnMembers ns).alertAt q = s.alertAt q := by
  have hring : (s.returnMembers ns).ring = s.ring := by simp
  unfold State.alertAt
  rw [hring]

theorem State.alertAt_alertDowned (s : State) (p q : AlertPos) (a : AlertRecord) : (s.alertDowned p a).alertAt q =
    if q = p then some (a.ended .aborted (some .highway) none) else s.alertAt q :=
  State.alertAt_setAlert s p q _

theorem State.alertAt_downAlert_of_ne {q : AlertPos} (h : q ≠ p) : (s.downAlert p).alertAt q = s.alertAt q := by
  obtain ⟨a, _, _, heq⟩ | ⟨_, heq⟩ := s.downAlert_cases p
  · rw [heq, State.alertAt_returnMembers, State.alertAt_alertDowned, if_neg h]
  · rw [heq]

theorem State.alertAt_downAlert_self : (s.downAlert p).alertAt p = (s.alertAt p).map AlertRecord.downed := by
  obtain ⟨a, ha, hstate, heq⟩ | ⟨hnot, heq⟩ := s.downAlert_cases p
  · rw [heq, State.alertAt_returnMembers, State.alertAt_alertDowned, if_pos rfl, ha, Option.map_some,
      AlertRecord.downed, if_pos hstate]
  · rw [heq]
    cases ha : s.alertAt p with
    | none => rfl
    | some a => rw [Option.map_some, AlertRecord.downed, if_neg (hnot a ha)]

theorem State.memberAt_downAlert_of_ne {q : AlertPos} (h : q ≠ p) (n : LineNo) :
    (s.downAlert p).memberAt q n ↔ s.memberAt q n := by
  rw [State.memberAt, State.memberAt, State.alertAt_downAlert_of_ne h]

theorem State.line_downAlert_of_not {n : LineNo} (h : (s.line n).callState ≠ .alerted ∨ ¬ s.memberAt p n) :
    (s.downAlert p).line n = s.line n := by
  obtain ⟨a, ha, hstate, heq⟩ | ⟨_, heq⟩ := s.downAlert_cases p
  · rw [heq]
    exact State.line_returnMembers_of_not (s := s.alertDowned p a) (h.imp_right fun hnot hmem => hnot ⟨a, ha, hstate, hmem⟩)
  · rw [heq]

theorem State.line_downAlert_of_member {n : LineNo} (halerted : (s.line n).callState = .alerted) (h : s.memberAt p n) :
    (s.downAlert p).line n = (s.line n).returned := by
  obtain ⟨a, ha, hstate, hmem⟩ := h
  rw [State.downAlert_of_outstanding ha hstate]
  exact State.line_returnMembers_of_mem (s := s.alertDowned p a) halerted hmem

end

section

variable {l : List AlertPos} {s : State} {n : LineNo}

/-- R107: all the outstanding alerts have ended. -/
theorem alertAt_downAlerts (s : State) (p : AlertPos) :
    (allPositions.foldl State.downAlert s).alertAt p = (s.alertAt p).map AlertRecord.downed :=
  foldl_read_of_mem (read := fun u => u.alertAt p) (g := Option.map AlertRecord.downed) (inv := fun _ => True)
    (fun _ _ hne => State.alertAt_downAlert_of_ne hne.symm) (fun _ _ _ => trivial)
    (fun _ _ => State.alertAt_downAlert_self)
    (fun r => by rw [Option.map_map]; exact congrFun (congrArg _ (funext AlertRecord.downed_downed)) r)
    (List.mem_finRange p) trivial

theorem line_downAlerts_of_not (hl : l.Nodup) (h : (s.line n).callState ≠ .alerted ∨ ∀ p ∈ l, ¬ s.memberAt p n) :
    (l.foldl State.downAlert s).line n = s.line n := by
  induction l generalizing s with
  | nil => rfl
  | cons p rest ih =>
    obtain ⟨hp, hrest⟩ := List.nodup_cons.1 hl
    have hline : (s.downAlert p).line n = s.line n :=
      State.line_downAlert_of_not (h.imp_right fun hnot => hnot p List.mem_cons_self)
    refine (ih hrest (h.imp (fun hstate => by rwa [hline]) fun hnot q hq hmem => ?_)).trans hline
    have hne : q ≠ p := fun heq => hp (heq ▸ hq)
    exact hnot q (List.mem_cons_of_mem _ hq) ((State.memberAt_downAlert_of_ne hne n).1 hmem)

/-- R105.3: a member returns to IDLE with the first of its alerts that ends. -/
theorem line_downAlerts_of_member (hl : l.Nodup) (halerted : (s.line n).callState = .alerted)
    (h : ∃ p ∈ l, s.memberAt p n) : (l.foldl State.downAlert s).line n = (s.line n).returned := by
  induction l generalizing s with
  | nil =>
    obtain ⟨p, hp, _⟩ := h
    exact absurd hp List.not_mem_nil
  | cons p rest ih =>
    obtain ⟨hp, hrest⟩ := List.nodup_cons.1 hl
    by_cases hmember : s.memberAt p n
    · have hline := State.line_downAlert_of_member halerted hmember
      refine (line_downAlerts_of_not hrest (.inl ?_)).trans hline
      rw [hline]
      exact CallState.noConfusion
    · have hline : (s.downAlert p).line n = s.line n := State.line_downAlert_of_not (.inr hmember)
      rw [List.foldl_cons, ih hrest (by rwa [hline]) ?_, hline]
      obtain ⟨q, hq, hmem⟩ := h
      obtain rfl | hq := List.mem_cons.1 hq
      · exact absurd hmem hmember
      · have hne : q ≠ p := fun heq => hp (heq ▸ hq)
        exact ⟨q, hq, (State.memberAt_downAlert_of_ne hne n).2 hmem⟩

theorem roll_downAlerts (h : (s.line n).callState ≠ .alerted) :
    (l.foldl State.downAlert s).power.roll.count n = s.power.roll.count n := by
  induction l generalizing s with
  | nil => rfl
  | cons p rest ih =>
    have hline : (s.downAlert p).line n = s.line n := State.line_downAlert_of_not (.inl h)
    refine (ih (by rwa [hline])).trans ?_
    obtain ⟨a, _, _, heq⟩ | ⟨_, heq⟩ := s.downAlert_cases p
    · rw [heq]
      exact State.roll_returnMembers (s := s.alertDowned p a) h
    · rw [heq]

theorem downAlerts_keep_order (s : State) : (l.foldl State.downAlert s).ring.accepted = s.ring.accepted ∧
    (l.foldl State.downAlert s).power.waitList = s.power.waitList := by
  have hstep (u : State) (p : AlertPos) : (u.downAlert p).ring.accepted = u.ring.accepted ∧
      (u.downAlert p).power.waitList = u.power.waitList := by
    obtain ⟨a, _, _, heq⟩ | ⟨_, heq⟩ := u.downAlert_cases p
    · have hring : ((u.alertDowned p a).returnMembers a.members).ring = (u.alertDowned p a).ring := by simp
      rw [heq, hring]
      exact ⟨rfl, State.waitList_returnMembers _ _⟩
    · rw [heq]
      exact ⟨rfl, rfl⟩
  exact ⟨foldl_keeps (fun u => u.ring.accepted) _ (fun u p => (hstep u p).1) l s,
    foldl_keeps (fun u => u.power.waitList) _ (fun u p => (hstep u p).2) l s⟩

end

/-! ### The lines and the bearers -/

/-- R32: the record of a line in CLEARING for congestion, its timer to expire at `ends`. -/
def LineRecord.congested (ends : Nat) (r : LineRecord) : LineRecord :=
  { r with callState := .clearing, bearer := none, tone := some .congestion
           timer := some { kind := .clearing, expires := ends }
           events := addKind LineEvent.all .congestion r.events }

theorem LineRecord.congested_congested (ends : Nat) (r : LineRecord) :
    (r.congested ends).congested ends = r.congested ends := by
  simp only [LineRecord.congested, addKind_addKind]

/-- When a clearing timer that starts now expires (R34). -/
def State.clearingEnds (s : State) : Nat :=
  s.now + 1000 * s.periods.clearing

theorem State.clearingEnds_congr {s u : State} (hnow : u.now = s.now) (hperiods : u.periods = s.periods) :
    u.clearingEnds = s.clearingEnds := by
  rw [State.clearingEnds, State.clearingEnds, hnow, hperiods]

theorem State.line_toClearing_congestion (s : State) (n m : LineNo) :
    (s.toClearing n (some .congestion) .congestion).line m =
      if m = n then (s.line n).congested s.clearingEnds else s.line m :=
  State.line_toClearing s n m _ _

theorem State.clearingEnds_toClearing (s : State) (n : LineNo) :
    (s.toClearing n (some .congestion) .congestion).clearingEnds = s.clearingEnds :=
  State.clearingEnds_congr (by simp) (by simp)

section

variable {s : State} {n : LineNo}

theorem State.line_downLine (s : State) (n m : LineNo) : (s.downLine n).line m =
    if m = n ∧ (s.line n).callState = .connected then (s.line n).congested s.clearingEnds else s.line m := by
  unfold State.downLine
  by_cases h : (s.line n).callState = .connected
  · rw [if_pos h, State.line_toClearing_congestion]
    exact if_congr (by simp [h]) rfl rfl
  · rw [if_neg h, if_neg fun hm => h hm.2]

/-- R32: every CONNECTED line has gone to CLEARING. -/
theorem line_downLines (s : State) (n : LineNo) : (allLines.foldl State.downLine s).line n =
    if (s.line n).callState = .connected then (s.line n).congested s.clearingEnds else s.line n := by
  refine foldl_read_of_mem (read := fun u => u.line n) (inv := fun u => u.clearingEnds = s.clearingEnds)
    (g := fun r => if r.callState = .connected then r.congested s.clearingEnds else r) (fun u a hne => ?_)
    (fun u a hu => ?_) (fun u hu => ?_) (fun r => ?_) (List.mem_finRange n) rfl
  · exact (State.line_downLine u a n).trans (if_neg fun h => hne h.1.symm)
  · exact (State.clearingEnds_congr (by simp) (by simp)).trans hu
  · rw [State.line_downLine, hu]
    exact if_congr (by simp) rfl rfl
  · by_cases h : r.callState = .connected
    · simp [h, LineRecord.congested]
    · simp [h]

theorem State.line_flushQueue_of_mem (h : n ∈ s.pool.queue.map Prod.fst) :
    s.flushQueue.line n = (s.line n).congested s.clearingEnds := by
  have hfold := foldl_read_of_mem (f := fun u m => u.toClearing m (some .congestion) .congestion)
    (read := fun u => u.line n) (inv := fun u => u.clearingEnds = s.clearingEnds)
    (g := LineRecord.congested s.clearingEnds) (key := n)
    (fun u a hne => (State.line_toClearing_congestion u a n).trans (if_neg hne.symm))
    (fun u a hu => (State.clearingEnds_toClearing u a).trans hu)
    (fun u hu => (State.line_toClearing_congestion u n n).trans ((if_pos rfl).trans (by rw [hu])))
    (LineRecord.congested_congested _) h (s := { s with pool := { s.pool with queue := [] } }) rfl
  rw [List.foldl_map] at hfold
  exact hfold

theorem State.line_flushQueue_of_not_mem (h : n ∉ s.pool.queue.map Prod.fst) : s.flushQueue.line n = s.line n := by
  have hfold := foldl_read_of_not_mem (f := fun u m => u.toClearing m (some .congestion) .congestion)
    (read := fun u => u.line n) (key := n)
    (fun u a hne => (State.line_toClearing_congestion u a n).trans (if_neg hne.symm)) h
    { s with pool := { s.pool with queue := [] } }
  rw [List.foldl_map] at hfold
  exact hfold

theorem State.pool_flushQueue (s : State) : s.flushQueue.pool = { s.pool with queue := [] } :=
  foldl_keeps (fun u => u.pool) _ (fun _ _ => by simp) _ _

end

/-- R85: the record of a bearer as the highway goes DOWN. -/
def BearerRecord.downed (r : BearerRecord) : BearerRecord :=
  if r.state = .blocked then r else { r with state := .down, downReason := some .highway, holder := none }

theorem BearerRecord.downed_downed (r : BearerRecord) : r.downed.downed = r.downed := by
  by_cases h : r.state = .blocked
  · simp [BearerRecord.downed, h]
  · simp [BearerRecord.downed, h]

theorem State.bearer_downBearer (s : State) (b c : BearerNo) :
    (s.downBearer b).bearer c = if c = b then (s.bearer b).downed else s.bearer c := by
  unfold State.downBearer BearerRecord.downed
  by_cases h : (s.bearer b).state = .blocked
  · rw [if_pos h, if_pos h]
    by_cases hc : c = b
    · rw [if_pos hc, hc]
    · rw [if_neg hc]
  · rw [if_neg h, if_neg h, State.bearer_modBearer]

theorem bearer_downBearers (s : State) (b : BearerNo) :
    (allBearers.foldl State.downBearer s).bearer b = (s.bearer b).downed :=
  foldl_read_of_mem (read := fun u => u.bearer b) (g := BearerRecord.downed) (inv := fun _ => True)
    (fun u a hne => (State.bearer_downBearer u a b).trans (if_neg hne.symm)) (fun _ _ _ => trivial)
    (fun u _ => (State.bearer_downBearer u b b).trans (if_pos rfl)) BearerRecord.downed_downed (List.mem_finRange b) trivial

/-- The seizure queue while the bearers go DOWN. -/
theorem queue_downBearers (s : State) : (allBearers.foldl State.downBearer s).pool.queue = s.pool.queue :=
  foldl_keeps (fun u => u.pool.queue) _ (fun u b => by
    unfold State.downBearer
    split
    · rfl
    · rfl) _ _

/-! ### The highway DOWN -/

/-- The part as the highway goes DOWN, before the other blocks are gone over. -/
def State.downOpened (s : State) : State :=
  { s with highway := { s.highway with state := .down, grace := none } }.addPartEvent .highwayDown

/-- The part once the test and the alerts have ended. -/
def State.downBegun (s : State) : State :=
  allPositions.foldl State.downAlert (s.downOpened.abortTest .highway)

/-- The part once the lines and the bearers have been gone over as well. -/
def State.downGone (s : State) : State :=
  allBearers.foldl State.downBearer (allLines.foldl State.downLine s.downBegun)

/-- The free list and the seizure queue emptied (R85). -/
def State.poolEmptied (s : State) : State :=
  ({ s with pool := { s.pool with freeList := [] } } : State).flushQueue

theorem State.takeDown_eq (s : State) : s.takeDown = s.downGone.poolEmptied := by
  unfold State.takeDown State.downGone State.downBegun State.downOpened State.poolEmptied
  exact Eq.refl _

@[simp] theorem State.downOpened_keeps (s : State) :
    s.downOpened.now = s.now ∧ s.downOpened.periods = s.periods ∧ s.downOpened.lines = s.lines ∧
      s.downOpened.pool = s.pool ∧ s.downOpened.ring = s.ring ∧ s.downOpened.power = s.power ∧
      s.downOpened.test = s.test ∧ s.downOpened.highway = { s.highway with state := .down, grace := none } ∧
      s.downOpened.sli = { s.sli with events := addKind PartEvent.all .highwayDown s.sli.events } :=
  ⟨rfl, rfl, rfl, rfl, rfl, rfl, rfl, rfl, rfl⟩

@[simp] theorem State.downBegun_keeps (s : State) : s.downBegun.now = s.now ∧ s.downBegun.periods = s.periods ∧
    s.downBegun.pool = (s.downOpened.abortTest .highway).pool ∧
    s.downBegun.test = (s.downOpened.abortTest .highway).test ∧ s.downBegun.highway = s.downOpened.highway ∧
    s.downBegun.sli = s.downOpened.sli := by
  simp [State.downBegun]

@[simp] theorem State.downGone_keeps (s : State) : s.downGone.now = s.now ∧ s.downGone.periods = s.periods ∧
    s.downGone.ring = s.downBegun.ring ∧ s.downGone.power = s.downBegun.power ∧ s.downGone.test = s.downBegun.test ∧
    s.downGone.highway = s.downOpened.highway ∧ s.downGone.sli = s.downOpened.sli := by
  simp [State.downGone]

section

variable {s : State} {n : LineNo}

@[simp] theorem State.poolEmptied_keeps (s : State) :
    s.poolEmptied.ring = s.ring ∧ s.poolEmptied.power = s.power ∧ s.poolEmptied.test = s.test ∧
      s.poolEmptied.highway = s.highway ∧ s.poolEmptied.sli = s.sli := by
  simp [State.poolEmptied]

theorem State.pool_poolEmptied (s : State) : s.poolEmptied.pool = { s.pool with freeList := [], queue := [] } := by
  rw [State.poolEmptied, State.pool_flushQueue]

theorem State.bearer_poolEmptied (s : State) (b : BearerNo) : s.poolEmptied.bearer b = s.bearer b := by
  rw [State.bearer, State.pool_poolEmptied]
  rfl

theorem State.line_poolEmptied_of_mem (h : n ∈ s.pool.queue.map Prod.fst) :
    s.poolEmptied.line n = (s.line n).congested s.clearingEnds :=
  State.line_flushQueue_of_mem (s := { s with pool := { s.pool with freeList := [] } }) h

theorem State.line_poolEmptied_of_not_mem (h : n ∉ s.pool.queue.map Prod.fst) : s.poolEmptied.line n = s.line n :=
  State.line_flushQueue_of_not_mem (s := { s with pool := { s.pool with freeList := [] } }) h

end

theorem State.test_abortTest (s : State) (c : TestCause) : (s.abortTest c).test = none := by
  cases h : s.test with
  | none =>
    unfold State.abortTest
    rw [h]
    exact h
  | some t => rw [State.abortTest_of_some h]; rfl

theorem State.queue_abortTest (s : State) (c : TestCause) : (s.abortTest c).pool.queue = s.pool.queue := by
  unfold State.abortTest
  cases s.test with
  | none => rfl
  | some t => rfl

/-- The bearer record with the result of an aborted test of the bearer, if one runs (R142). -/
def State.withAbort (s : State) (b : BearerNo) (r : BearerRecord) : BearerRecord :=
  match s.test with
  | some t => if t.bearer = b then
      { r with outcome := .aborted, abortCause := some .highway, errorCount := t.errorCount, locked := t.locked
               events := addKind BearerEvent.all .testEnded r.events } else r
  | none => r

theorem State.bearer_abortTest (s : State) (b : BearerNo) :
    (s.abortTest .highway).bearer b = s.withAbort b (s.bearer b) := by
  cases h : s.test with
  | none =>
    unfold State.abortTest State.withAbort
    rw [h]
  | some t =>
    unfold State.withAbort
    rw [State.abortTest_of_some h, h, testAborted, State.bearer_modBearer]
    by_cases hb : t.bearer = b
    · subst hb
      rw [if_pos rfl]
      exact (if_pos rfl).symm
    · rw [if_neg (Ne.symm hb)]
      exact (if_neg hb).symm

theorem State.withAbort_state (s : State) (b : BearerNo) (r : BearerRecord) : (s.withAbort b r).state = r.state := by
  unfold State.withAbort
  cases s.test with
  | none => rfl
  | some t =>
    dsimp only
    split
    · rfl
    · rfl

theorem State.bearer_eq {s t : State} (h : s.pool.bearers = t.pool.bearers) (b : BearerNo) : s.bearer b = t.bearer b := by
  unfold State.bearer
  rw [h]

/-- R85, R142: the bearers once the highway is DOWN. -/
theorem State.bearer_takeDown (s : State) (b : BearerNo) :
    s.takeDown.bearer b = (s.withAbort b (s.bearer b)).downed := by
  have hlines : (allLines.foldl State.downLine s.downBegun).bearer b = (s.downOpened.abortTest .highway).bearer b :=
    State.bearer_eq (by simp) b
  rw [State.takeDown_eq, State.bearer_poolEmptied, State.downGone, bearer_downBearers, hlines, State.bearer_abortTest]
  rfl

theorem State.queue_downGone (s : State) : s.downGone.pool.queue = s.pool.queue := by
  rw [State.downGone, queue_downBearers]
  simp [State.queue_abortTest]

/-- R32, R149: the record of a line is what the ended alerts leave, gone over for a call and for a place in the queue. -/
theorem State.line_takeDown (s : State) (n : LineNo) :
    let r := if (s.downBegun.line n).callState = .connected then (s.downBegun.line n).congested s.clearingEnds
      else s.downBegun.line n
    (n ∈ s.pool.queue.map Prod.fst → s.takeDown.line n = r.congested s.clearingEnds) ∧
      (n ∉ s.pool.queue.map Prod.fst → s.takeDown.line n = r) := by
  intro r
  have hbegun : s.downBegun.clearingEnds = s.clearingEnds := State.clearingEnds_congr (by simp) (by simp)
  have hgone : s.downGone.clearingEnds = s.clearingEnds := State.clearingEnds_congr (by simp) (by simp)
  have hline : s.downGone.line n = r := by
    have hbearers : s.downGone.line n = (allLines.foldl State.downLine s.downBegun).line n :=
      State.line_eq (by simp [State.downGone]) n
    rw [hbearers, line_downLines, hbegun]
  rw [← State.queue_downGone s, State.takeDown_eq]
  refine ⟨fun h => ?_, fun h => ?_⟩
  · rw [State.line_poolEmptied_of_mem h, hline, hgone]
  · rw [State.line_poolEmptied_of_not_mem h, hline]

theorem State.alertAt_abortTest (s : State) (p : AlertPos) :
    (s.downOpened.abortTest .highway).alertAt p = s.alertAt p := by
  have hring : (s.downOpened.abortTest .highway).ring = s.ring := by simp
  unfold State.alertAt
  rw [hring]

theorem State.line_downBegun (s : State) (n : LineNo) :
    ((s.line n).callState = .alerted → (∃ p, s.memberAt p n) → s.downBegun.line n = (s.line n).returned) ∧
      ((s.line n).callState ≠ .alerted ∨ (∀ p, ¬ s.memberAt p n) → s.downBegun.line n = s.line n) := by
  have hline : (s.downOpened.abortTest .highway).line n = s.line n := State.line_eq (by simp) n
  have hmember (p : AlertPos) : (s.downOpened.abortTest .highway).memberAt p n ↔ s.memberAt p n := by
    rw [State.memberAt, State.memberAt, State.alertAt_abortTest]
  refine ⟨fun halerted ⟨p, hp⟩ => ?_, fun h => ?_⟩
  · rw [← hline]
    exact line_downAlerts_of_member (List.nodup_finRange 8) (by rwa [hline]) ⟨p, List.mem_finRange p, (hmember p).2 hp⟩
  · refine (line_downAlerts_of_not (List.nodup_finRange 8) ?_).trans hline
    rw [hline]
    exact h.imp_right fun hnot p _ hp => hnot p ((hmember p).1 hp)

/-- What becomes of a line that is not returned from an alert. -/
theorem State.line_takeDown_of_kept {s : State} {n : LineNo}
    (h : (s.line n).callState ≠ .alerted ∨ ∀ p, ¬ s.memberAt p n) :
    ((s.line n).callState = .connected → s.takeDown.line n = (s.line n).congested s.clearingEnds) ∧
    (n ∈ s.pool.queue.map Prod.fst → s.takeDown.line n = (s.line n).congested s.clearingEnds) ∧
    ((s.line n).callState ≠ .connected → n ∉ s.pool.queue.map Prod.fst → s.takeDown.line n = s.line n) := by
  obtain ⟨hmem, hnot⟩ := s.line_takeDown n
  rw [(s.line_downBegun n).2 h] at hmem hnot
  refine ⟨fun hconnected => ?_, fun hwaits => ?_, fun hother hfree => ?_⟩
  · rw [if_pos hconnected] at hmem hnot
    by_cases hwaits : n ∈ s.pool.queue.map Prod.fst
    · rw [hmem hwaits, LineRecord.congested_congested]
    · exact hnot hwaits
  · rw [hmem hwaits]
    split
    · exact LineRecord.congested_congested _ _
    · rfl
  · rw [hnot hfree, if_neg hother]

theorem State.line_takeDown_of_returned {s : State} {n : LineNo} (halerted : (s.line n).callState = .alerted)
    (hmember : ∃ p, s.memberAt p n) (hfree : n ∉ s.pool.queue.map Prod.fst) :
    s.takeDown.line n = (s.line n).returned := by
  have hline := (s.line_takeDown n).2 hfree
  rw [(s.line_downBegun n).1 halerted hmember] at hline
  exact hline.trans (if_neg CallState.noConfusion)

/-- R107: the alert table and the orders once the highway is DOWN. -/
theorem State.ring_takeDown (s : State) : s.takeDown.ring = s.downBegun.ring := by
  rw [State.takeDown_eq]
  simp

theorem State.power_takeDown (s : State) : s.takeDown.power = s.downBegun.power := by
  rw [State.takeDown_eq]
  simp

theorem State.alertAt_eq {s t : State} (h : s.ring = t.ring) (p : AlertPos) : s.alertAt p = t.alertAt p := by
  unfold State.alertAt
  rw [h]

theorem State.alertAt_takeDown (s : State) (p : AlertPos) : s.takeDown.alertAt p = (s.alertAt p).map AlertRecord.downed := by
  rw [State.alertAt_eq s.ring_takeDown p, State.downBegun, alertAt_downAlerts, State.alertAt_abortTest]

theorem State.orders_takeDown (s : State) :
    s.takeDown.ring.accepted = s.ring.accepted ∧ s.takeDown.power.waitList = s.power.waitList := by
  have hkeep := downAlerts_keep_order (l := allPositions) (s.downOpened.abortTest .highway)
  rw [State.ring_takeDown, State.power_takeDown, State.downBegun]
  exact ⟨hkeep.1.trans (by simp), hkeep.2.trans (by simp)⟩

theorem State.roll_takeDown {s : State} {n : LineNo} (h : (s.line n).callState ≠ .alerted) :
    s.takeDown.power.roll.count n = s.power.roll.count n := by
  have hline : (s.downOpened.abortTest .highway).line n = s.line n := State.line_eq (by simp) n
  rw [State.power_takeDown, State.downBegun, roll_downAlerts (by rwa [hline])]
  simp

/-- Settles O54: the account closes over the state that the highway's going DOWN leaves, read block by block. -/
theorem graceExpiryTakesTheHighwayDown : Obligations.GraceExpiryTakesTheHighwayDown := by
  unfold Obligations.GraceExpiryTakesTheHighwayDown
  intro s
  refine ⟨fun h => congrArg Host.Outcome.next (if_pos h), fun h => ⟨s.takeDown, congrArg Host.Outcome.next (if_neg h), ?_⟩⟩
  have hblocks : s.takeDown.highway = { s.highway with state := .down, grace := none } ∧ s.takeDown.test = none ∧
      s.takeDown.sli = { s.sli with events := addKind PartEvent.all .highwayDown s.sli.events } := by
    rw [State.takeDown_eq]
    simp [State.test_abortTest]
  have hpool : s.takeDown.pool.freeList = [] ∧ s.takeDown.pool.queue = [] := by
    rw [State.takeDown_eq, State.pool_poolEmptied]
    exact ⟨rfl, rfl⟩
  obtain ⟨haccepted, hwaitList⟩ := s.orders_takeDown
  refine ⟨hblocks.1, hblocks.2.1, hblocks.2.2, hpool.1, hpool.2, fun b => ?_, s.alertAt_takeDown, haccepted, by simp,
    by simp, fun n => ?_, by simp, hwaitList, by simp, by simp, by simp, by simp, by simp, fun n => State.roll_takeDown⟩
  · rw [State.bearer_takeDown, BearerRecord.downed, State.withAbort_state]
    rfl
  · intro member waits cleared
    refine ⟨fun halerted hmember hfree => State.line_takeDown_of_returned halerted hmember hfree,
      fun halerted hnot hfree => ?_, fun hconnected => ?_, fun hother hwaits => ?_, fun hother hquiet hfree => ?_⟩
    · exact (State.line_takeDown_of_kept (.inr fun p hp => hnot ⟨p, hp⟩)).2.2 (by simp [halerted]) hfree
    · exact (State.line_takeDown_of_kept (.inl (by simp [hconnected]))).1 hconnected
    · exact (State.line_takeDown_of_kept (.inl hother)).2.1 hwaits
    · exact (State.line_takeDown_of_kept (.inl hother)).2.2 hquiet hfree

end Sys2Proof.Machine

/-! PROOF. Shedding (R119): first the alerts of the placement order, the latest first, then the FULL lines of the feed
roll, from its tail. -/

namespace Sys2Proof.Machine

open Sys2Proof.Slice0

section

variable {s : State}

theorem State.shedRinging_of_fits (h : s.committed ≤ s.power.budget) (l : List AlertPos) : s.shedRinging l = s := by
  cases l with
  | nil => rfl
  | cons pos rest => exact if_pos h

theorem State.shedFeed_of_fits (h : s.committed ≤ s.power.budget) (l : List LineNo) : s.shedFeed l = s := by
  cases l with
  | nil => rfl
  | cons n rest => exact if_pos h

/-- A line that does not draw FULL is passed over. -/
theorem State.shedFeed_cons_of_not_full {n : LineNo} (hn : (s.line n).feed ≠ .full) (rest : List LineNo) :
    s.shedFeed (n :: rest) = s.shedFeed rest := by
  by_cases h : s.committed ≤ s.power.budget
  · rw [State.shedFeed_of_fits h, State.shedFeed_of_fits h]
  · exact (if_neg h).trans (if_neg hn)

theorem State.shedFeed_append_of_not_full {l : List LineNo} (hl : ∀ n ∈ l, (s.line n).feed ≠ .full) (rest : List LineNo) :
    s.shedFeed (l ++ rest) = s.shedFeed rest := by
  induction l with
  | nil => rfl
  | cons n l ih =>
    rw [List.cons_append, State.shedFeed_cons_of_not_full (hl n List.mem_cons_self),
      ih fun m hm => hl m (List.mem_cons_of_mem _ hm)]

theorem State.shedFeed_of_no_full {l : List LineNo} (hl : ∀ n ∈ l, (s.line n).feed ≠ .full) : s.shedFeed l = s := by
  rw [← List.append_nil l, State.shedFeed_append_of_not_full hl]
  rfl

theorem State.shed_of_fits (h : s.committed ≤ s.power.budget) : s.shed = s := by
  rw [State.shed, State.shedRinging_of_fits h]
  exact State.shedFeed_of_fits h _

theorem State.changeFeed_eq (s : State) (n : LineNo) (c : Feed) : s.changeFeed n c =
    s.modLine n fun r => { r with feed := c, events := addKind LineEvent.all .feedChanged r.events } := by
  rw [State.changeFeed, State.addLineEvent, State.modLine_modLine]

theorem State.line_changeFeed_of_ne {n m : LineNo} (h : m ≠ n) (c : Feed) : (s.changeFeed n c).line m = s.line m := by
  rw [State.changeFeed_eq, State.line_modLine, if_neg h]

theorem State.feed_changeFeed (n : LineNo) (c : Feed) : ((s.changeFeed n c).line n).feed = c := by
  rw [State.changeFeed_eq, State.line_modLine, if_pos rfl]

section

variable (hover : s.power.budget < s.committed)
include hover

/-- R119, step 1: the latest alert is unplaced and shedding goes on. -/
theorem State.shed_of_placed {rest : List AlertPos} {p : AlertPos} {a : AlertRecord} (horder : s.ring.placed = rest ++ [p])
    (hmem : p ∉ rest) (ha : s.alertAt p = some a) (hplaced : a.state = .placed) : s.shed = (s.unplace p).shed := by
  have hlast : (s.unplace p).ring.placed = rest := by
    show s.ring.placed.erase p = rest
    rw [horder, List.erase_append_right _ hmem, List.erase_cons_head, List.append_nil]
  have hin : inState .placed (s.alertAt p) = true := by simp [inState, ha, hplaced]
  have hstep : s.shedRinging (p :: rest.reverse) = (s.unplace p).shedRinging rest.reverse :=
    (if_neg (Nat.not_le.2 hover)).trans (if_pos hin)
  rw [State.shed, State.shed, horder, hlast, List.reverse_append, List.reverse_singleton, List.singleton_append, hstep]

/-- R119, step 2: the FULL line nearest the tail of the roll is downgraded and shedding goes on. -/
theorem State.shed_of_full {front back : List LineNo} {n : LineNo} (hnone : s.ring.placed = [])
    (hroll : s.power.roll = front ++ n :: back) (hback : ∀ m ∈ back, (s.line m).feed ≠ .full)
    (hn : (s.line n).feed = .full) : s.shed = (s.changeFeed n .reduced).shed := by
  have hshed (t : State) (ht : t.ring.placed = []) (hr : t.power.roll = front ++ n :: back) :
      t.shed = t.shedFeed (back.reverse ++ n :: front.reverse) := by
    rw [State.shed, ht]
    show t.shedFeed t.power.roll.reverse = _
    rw [hr, List.reverse_append, List.reverse_cons, List.append_assoc, List.singleton_append]
  have hafter (m : LineNo) (hm : m ∈ back.reverse) : ((s.changeFeed n .reduced).line m).feed ≠ .full := by
    have hfeed := hback m (List.mem_reverse.1 hm)
    have hne : m ≠ n := fun heq => hfeed (heq ▸ hn)
    rwa [State.line_changeFeed_of_ne hne]
  have hstep : s.shedFeed (n :: front.reverse) = (s.changeFeed n .reduced).shedFeed front.reverse :=
    (if_neg (Nat.not_le.2 hover)).trans (if_pos hn)
  rw [hshed s hnone hroll, hshed (s.changeFeed n .reduced) hnone hroll, State.shedFeed_append_of_not_full hafter,
    State.shedFeed_append_of_not_full fun m hm => hback m (List.mem_reverse.1 hm), hstep,
    State.shedFeed_cons_of_not_full (by rw [State.feed_changeFeed]; exact Feed.noConfusion)]

end

theorem State.shed_of_nothing (hnone : s.ring.placed = []) (hroll : ∀ n ∈ s.power.roll, (s.line n).feed ≠ .full) :
    s.shed = s := by
  rw [State.shed, hnone]
  exact State.shedFeed_of_no_full fun n hn => hroll n (List.mem_reverse.1 hn)

end

/-! ### What is left -/

theorem State.not_placed_unplace {s : State} {q : AlertPos} (h : inState .placed (s.alertAt q) = false) (pos : AlertPos) :
    inState .placed ((s.unplace pos).alertAt q) = false := by
  rw [State.alertAt_unplace]
  split
  · cases s.alertAt pos <;> rfl
  · exact h

/-- R119, step 1: an alert that is not PLACED stays so. -/
theorem State.not_placed_shedRinging {s : State} {q : AlertPos} (h : inState .placed (s.alertAt q) = false)
    (l : List AlertPos) : inState .placed ((s.shedRinging l).alertAt q) = false := by
  induction l generalizing s with
  | nil => exact h
  | cons pos rest ih =>
    unfold State.shedRinging
    split
    · exact h
    · split
      · exact ih (State.not_placed_unplace h pos)
      · exact ih h

theorem State.shedRinging_ends (s : State) (l : List AlertPos) : (s.shedRinging l).committed ≤ s.power.budget ∨
    ∀ q ∈ l, inState .placed ((s.shedRinging l).alertAt q) = false := by
  induction l generalizing s with
  | nil => exact .inr fun q hq => absurd hq List.not_mem_nil
  | cons pos rest ih =>
    unfold State.shedRinging
    split
    · exact .inl ‹_›
    · split
      next hplaced =>
        refine (ih (s.unplace pos)).imp (by simp) fun hrest q hq => ?_
        obtain rfl | hq := List.mem_cons.1 hq
        · refine State.not_placed_shedRinging ?_ rest
          rw [State.alertAt_unplace, if_pos rfl]
          cases s.alertAt q <;> rfl
        · exact hrest q hq
      next hplaced =>
        refine (ih s).imp id fun hrest q hq => ?_
        obtain rfl | hq := List.mem_cons.1 hq
        · exact State.not_placed_shedRinging (Bool.eq_false_iff.2 hplaced) rest
        · exact hrest q hq

/-- R119, step 2: a line that does not draw FULL stays so. -/
theorem State.not_full_shedFeed {s : State} {m : LineNo} (h : (s.line m).feed ≠ .full) (l : List LineNo) :
    ((s.shedFeed l).line m).feed ≠ .full := by
  induction l generalizing s with
  | nil => exact h
  | cons n rest ih =>
    unfold State.shedFeed
    split
    · exact h
    · split
      · refine ih ?_
        by_cases hm : m = n
        · rw [hm, State.feed_changeFeed]
          exact Feed.noConfusion
        · rwa [State.line_changeFeed_of_ne hm]
      · exact ih h

theorem State.shedFeed_ends (s : State) (l : List LineNo) : (s.shedFeed l).committed ≤ s.power.budget ∨
    ∀ n ∈ l, ((s.shedFeed l).line n).feed ≠ .full := by
  induction l generalizing s with
  | nil => exact .inr fun n hn => absurd hn List.not_mem_nil
  | cons m rest ih =>
    unfold State.shedFeed
    split
    · exact .inl ‹_›
    · split
      next hfull =>
        refine (ih (s.changeFeed m .reduced)).imp (by simp) fun hrest n hn => ?_
        obtain rfl | hn := List.mem_cons.1 hn
        · refine State.not_full_shedFeed ?_ rest
          rw [State.feed_changeFeed]
          exact Feed.noConfusion
        · exact hrest n hn
      next hfull =>
        refine (ih s).imp id fun hrest n hn => ?_
        obtain rfl | hn := List.mem_cons.1 hn
        · exact State.not_full_shedFeed hfull rest
        · exact hrest n hn

/-- R119: shedding ends with the total within the budget or with nothing left to shed. -/
theorem State.shed_ends (s : State) : s.shed.committed ≤ s.power.budget ∨
    ((∀ p ∈ s.ring.placed, inState .placed (s.shed.alertAt p) = false) ∧
      ∀ n ∈ s.power.roll, (s.shed.line n).feed ≠ .full) := by
  have hpower : (s.shedRinging s.ring.placed.reverse).power = s.power := by simp
  obtain hfits | hunplaced := s.shedRinging_ends s.ring.placed.reverse
  · have hshed : s.shed = s.shedRinging s.ring.placed.reverse := State.shedFeed_of_fits (by rwa [hpower]) _
    rw [hshed]
    exact .inl hfits
  · have hring : s.shed.ring = (s.shedRinging s.ring.placed.reverse).ring := by simp [State.shed]
    have hfeed := (s.shedRinging s.ring.placed.reverse).shedFeed_ends
      (s.shedRinging s.ring.placed.reverse).power.roll.reverse
    rw [hpower] at hfeed
    refine hfeed.imp (fun h => ?_) fun h => ⟨fun p hp => ?_, fun n hn => ?_⟩
    · rwa [State.shed, hpower]
    · rw [State.alertAt_eq hring]
      exact hunplaced p (List.mem_reverse.2 hp)
    · rw [State.shed, hpower]
      exact h n (List.mem_reverse.2 hn)

/-- Settles O23: one step of each kind, and where the steps end. -/
theorem sheddingTakesRingingThenFeedLatestFirst : Obligations.SheddingTakesRingingThenFeedLatestFirst := by
  unfold Obligations.SheddingTakesRingingThenFeedLatestFirst
  intro s
  refine ⟨State.shed_of_fits, fun hover => ⟨fun rest p a horder hmem ha hplaced => ?_,
    fun front n back hnone hroll hback hn => ?_, State.shed_of_nothing⟩,
    s.shed_ends.imp id fun h => ⟨fun p hp a ha hplaced => ?_, h.2⟩⟩
  · have herase : s.ring.placed.erase p = rest := by
      rw [horder, List.erase_append_right _ hmem, List.erase_cons_head, List.append_nil]
    rw [State.shed_of_placed hover horder hmem ha hplaced, State.unplace_of_some ha, herase]
  · rw [State.shed_of_full hover hnone hroll hback hn, State.changeFeed_eq]
  · have hin := h.1 p hp
    rw [ha] at hin
    exact of_decide_eq_false hin hplaced

end Sys2Proof.Machine

/-! PROOF. SET_POWER (R121): the fitting of the phases (R99), re-evaluation (R116, R117), the closing of an action and the
overcommit flag (R120). -/

namespace Sys2Proof.Machine

open Sys2Proof.Slice0

/-! ### The fitting of the phases -/

section

variable {s : State} {p : PhaseNo}

theorem State.fitPhase_of_fits (h : s.phaseLoad p ≤ s.ring.capacity) (l : List AlertPos) : s.fitPhase p l = s := by
  cases l with
  | nil => rfl
  | cons pos rest => exact if_pos h

/-- R99: an alert that is not PLACED in the phase is passed over. -/
theorem State.fitPhase_append_of_not_placed {l : List AlertPos} (hl : ∀ q ∈ l, placedIn p (s.alertAt q) = false)
    (rest : List AlertPos) : s.fitPhase p (l ++ rest) = s.fitPhase p rest := by
  induction l with
  | nil => rfl
  | cons pos l ih =>
    have hrest := ih fun q hq => hl q (List.mem_cons_of_mem _ hq)
    by_cases h : s.phaseLoad p ≤ s.ring.capacity
    · rw [State.fitPhase_of_fits h, State.fitPhase_of_fits h]
    · have hpos : ¬ placedIn p (s.alertAt pos) = true := by simp [hl pos List.mem_cons_self]
      exact (if_neg h).trans ((if_neg hpos).trans hrest)

theorem foldl_fitPhase_of_fits {l : List PhaseNo} (h : ∀ q ∈ l, s.phaseLoad q ≤ s.ring.capacity) :
    l.foldl (fun t q => t.fitPhase q t.ring.placed.reverse) s = s := by
  induction l with
  | nil => rfl
  | cons q rest ih =>
    rw [List.foldl_cons, State.fitPhase_of_fits (h q List.mem_cons_self)]
    exact ih fun r hr => h r (List.mem_cons_of_mem _ hr)

/-- R99: the phases below the first that does not fit are left alone, in either of two states. -/
theorem foldl_fitPhase_congr {t : State} {l : List PhaseNo} (hl : l.Pairwise (· < ·)) (hp : p ∈ l)
    (hs : ∀ q, q < p → s.phaseLoad q ≤ s.ring.capacity) (ht : ∀ q, q < p → t.phaseLoad q ≤ t.ring.capacity)
    (h : s.fitPhase p s.ring.placed.reverse = t.fitPhase p t.ring.placed.reverse) :
    l.foldl (fun t q => t.fitPhase q t.ring.placed.reverse) s =
      l.foldl (fun t q => t.fitPhase q t.ring.placed.reverse) t := by
  induction l with
  | nil => exact absurd hp List.not_mem_nil
  | cons x rest ih =>
    obtain ⟨hx, hrest⟩ := List.pairwise_cons.1 hl
    obtain rfl | hmem := List.mem_cons.1 hp
    · rw [List.foldl_cons, List.foldl_cons, h]
    · rw [List.foldl_cons, List.foldl_cons, State.fitPhase_of_fits (hs x (hx p hmem)),
        State.fitPhase_of_fits (ht x (hx p hmem))]
      exact ih hrest hmem

theorem State.phaseLoad_unplace_le (s : State) (pos : AlertPos) (p : PhaseNo) :
    (s.unplace pos).phaseLoad p ≤ s.phaseLoad p :=
  State.phaseLoad_le_of_load_le fun q => s.alertLoad_unplace_le pos q p

/-- R99: the most recently placed alert of the first phase above the capacity is unplaced, and fitting goes on. -/
theorem State.fitPhases_of_above {front back : List AlertPos} {pos : AlertPos} {a : AlertRecord}
    (habove : s.ring.capacity < s.phaseLoad p) (hbelow : ∀ q, q < p → s.phaseLoad q ≤ s.ring.capacity)
    (horder : s.ring.placed = front ++ pos :: back) (hfront : pos ∉ front) (ha : s.alertAt pos = some a)
    (hplaced : a.state = .placed) (hphase : a.phase = some p)
    (hback : ∀ q ∈ back, ∀ b, s.alertAt q = some b → b.state = .placed → b.phase ≠ some p) :
    s.fitPhases = (s.unplace pos).fitPhases := by
  have hafter : (s.unplace pos).ring.placed = front ++ back := by
    show s.ring.placed.erase pos = front ++ back
    rw [horder, List.erase_append_right _ hfront, List.erase_cons_head]
  have hin : placedIn p (s.alertAt pos) = true := by simp [placedIn, ha, hplaced, hphase]
  have hskip (q : AlertPos) (hq : q ∈ back.reverse) : placedIn p (s.alertAt q) = false := by
    cases hb : s.alertAt q with
    | none => rfl
    | some b => exact decide_eq_false fun h => hback q (List.mem_reverse.1 hq) b hb h.1 h.2
  have hskip' (q : AlertPos) (hq : q ∈ back.reverse) : placedIn p ((s.unplace pos).alertAt q) = false := by
    have hne : q ≠ pos := fun heq => by simp [heq ▸ hskip q hq] at hin
    rw [State.alertAt_unplace, if_neg hne]
    exact hskip q hq
  have hstep : s.fitPhase p (pos :: front.reverse) = (s.unplace pos).fitPhase p front.reverse :=
    (if_neg (Nat.not_le.2 habove)).trans (if_pos hin)
  refine foldl_fitPhase_congr (List.pairwise_lt_finRange 3) (List.mem_finRange p) hbelow
    (fun q hq => (s.phaseLoad_unplace_le pos q).trans (hbelow q hq)) ?_
  rw [hafter, horder, List.reverse_append, List.reverse_append, List.reverse_cons, List.append_assoc,
    List.singleton_append, State.fitPhase_append_of_not_placed hskip, State.fitPhase_append_of_not_placed hskip', hstep]

/-- An alert that fitting leaves alone: it is not PLACED, or its phase fits. -/
def State.untouched (s : State) (pos : AlertPos) (a : AlertRecord) : Prop :=
  s.alertAt pos = some a ∧ (a.state ≠ .placed ∨ ∀ p, a.phase = some p → s.phaseLoad p ≤ s.ring.capacity)

theorem State.untouched_fitPhase {pos : AlertPos} {a : AlertRecord} (h : s.untouched pos a) (p : PhaseNo)
    (l : List AlertPos) : (s.fitPhase p l).untouched pos a := by
  induction l generalizing s with
  | nil => exact h
  | cons q rest ih =>
    unfold State.fitPhase
    split
    · exact h
    next habove =>
      split
      next hin =>
        obtain ⟨ha, hstate⟩ := h
        have hne : pos ≠ q := by
          rintro rfl
          rw [ha] at hin
          obtain ⟨hplaced, hphase⟩ := of_decide_eq_true hin
          exact hstate.elim (· hplaced) fun hfits => habove (hfits p hphase)
        refine ih ⟨?_, hstate.imp_right fun hfits r hr => (s.phaseLoad_unplace_le q r).trans (hfits r hr)⟩
        rwa [State.alertAt_unplace, if_neg hne]
      next => exact ih h

theorem State.untouched_fitPhases {pos : AlertPos} {a : AlertRecord} (h : s.untouched pos a) :
    s.fitPhases.untouched pos a := by
  have hfold (l : List PhaseNo) (t : State) (ht : t.untouched pos a) :
      (l.foldl (fun t q => t.fitPhase q t.ring.placed.reverse) t).untouched pos a := by
    induction l generalizing t with
    | nil => exact ht
    | cons q rest ih => exact ih _ (State.untouched_fitPhase ht q _)
  exact hfold allPhases s h

end

/-! ### The committed total -/

theorem largest_le_largest {f g : PhaseNo → Nat} (h : ∀ p, f p ≤ g p) : largest f ≤ largest g :=
  max_le_max (h 0) (max_le_max (h 1) (h 2))

/-- R111: the total does not fall where no term of it does. -/
theorem State.committed_le {s t : State} (hbase : s.baseCost = t.baseCost) (hfeed : s.feedCost ≤ t.feedCost)
    (hload : ∀ p, s.phaseLoad p ≤ t.phaseLoad p) (hanswer : s.answerReserve = t.answerReserve) :
    s.committed ≤ t.committed := by
  have hring : s.ringReserve ≤ t.ringReserve := Nat.mul_le_mul_left _ (largest_le_largest hload)
  rw [State.committed, State.committed, hbase, hanswer]
  omega

section

variable {s : State}

/-- R96: placement of a QUEUED alert does not lower the total. -/
theorem State.committed_le_place {pos : AlertPos} {a : AlertRecord} (ha : s.alertAt pos = some a)
    (hqueued : a.state = .queued) (p : PhaseNo) : s.committed ≤ (s.place pos p).committed := by
  have hsame (q : AlertPos) (hq : q ≠ pos) : (s.place pos p).alertAt q = s.alertAt q := by
    rw [State.alertAt_place, if_neg hq]
  refine State.committed_le rfl le_rfl (fun r => State.phaseLoad_le_of_load_le fun q => ?_) ?_
  · by_cases hq : q = pos
    · rw [hq, ha, alertLoad_of_not_placed (by simp [hqueued])]
      exact Nat.zero_le _
    · rw [hsame q hq]
  · refine congrArg (fun l => Config.answerReservePU * List.length l) (List.filter_congr fun q _ => ?_)
    by_cases hq : q = pos
    · subst hq
      rw [State.alertAt_place, if_pos rfl, ha]
      simp [isOutstanding, hqueued, AlertState.outstanding]
    · rw [hsame q hq]

/-- R97: the placement try goes on until it can go on no further. -/
theorem State.tryPlacement_settled (hnodup : s.ring.accepted.Nodup) :
    s.tryPlacement.tryPlacement = s.tryPlacement ∧ s.committed ≤ s.tryPlacement.committed := by
  induction hk : s.ringQueue.length generalizing s with
  | zero =>
    have hempty := State.tryPlacement_of_empty (List.eq_nil_of_length_eq_zero hk)
    rw [hempty]
    exact ⟨hempty, le_rfl⟩
  | succ k ih =>
    obtain ⟨pos, rest, hqueue⟩ := List.exists_cons_of_length_eq_add_one hk
    have hmem : pos ∈ s.ringQueue := hqueue ▸ List.mem_cons_self
    obtain ⟨a, ha, hqueued⟩ := inState_iff.1 (List.mem_filter.1 hmem).2
    have hrest : pos ∉ rest := by
      have hq : s.ringQueue.Nodup := hnodup.filter _
      rw [hqueue] at hq
      exact (List.nodup_cons.1 hq).1
    cases hphase : s.phaseFor a.load with
    | none =>
      have hstuck := State.tryPlacement_of_no_phase hqueue ha hphase
      rw [hstuck]
      exact ⟨hstuck, le_rfl⟩
    | some p =>
      have hlength : (s.place pos p).ringQueue.length = k := by
        rw [State.ringQueue_place_head hqueue hrest]
        rw [hqueue] at hk
        exact Nat.succ.inj hk
      obtain ⟨hsettled, hle⟩ := ih (s := s.place pos p) hnodup hlength
      rw [State.tryPlacement_of_phase hqueue ha hrest hphase]
      exact ⟨hsettled, (State.committed_le_place ha hqueued p).trans hle⟩

/-- R96: an alert that is not QUEUED is not made so by the placement try. -/
theorem State.not_queued_placeAlong {pos : AlertPos} (h : inState .queued (s.alertAt pos) = false) (l : List AlertPos) :
    inState .queued ((s.placeAlong l).alertAt pos) = false := by
  induction l generalizing s with
  | nil => exact h
  | cons q rest ih =>
    unfold State.placeAlong
    split
    · exact h
    · split
      · exact h
      · refine ih ?_
        rw [State.alertAt_place]
        split
        · cases s.alertAt q <;> rfl
        · exact h

/-- R97: a placement try that changes nothing has no phase for the head of the ring queue. -/
theorem State.phaseFor_of_stuck (h : s.tryPlacement = s) {pos : AlertPos} {rest : List AlertPos} {a : AlertRecord}
    (hqueue : s.ringQueue = pos :: rest) (ha : s.alertAt pos = some a) : s.phaseFor a.load = none := by
  cases hphase : s.phaseFor a.load with
  | none => rfl
  | some p =>
    have hmem : pos ∈ s.ringQueue := hqueue ▸ List.mem_cons_self
    have hqueued := (List.mem_filter.1 hmem).2
    have htry : s.tryPlacement = (s.place pos p).placeAlong rest := by
      rw [State.tryPlacement, hqueue]
      conv_lhs => unfold State.placeAlong
      rw [ha]
      dsimp only
      rw [hphase]
    have hplaced : inState .queued ((s.place pos p).alertAt pos) = false := by
      rw [State.alertAt_place, if_pos rfl, ha]
      rfl
    have hafter := State.not_queued_placeAlong hplaced rest
    rw [← htry, h, hqueued] at hafter
    exact absurd hafter Bool.noConfusion

theorem State.soonest_eq_none_iff {l : List PhaseNo} : s.soonest l = none ↔ l = [] := by
  cases l with
  | nil => exact ⟨fun _ => rfl, fun _ => rfl⟩
  | cons p rest =>
    unfold State.soonest
    cases s.soonest rest with
    | none => simp
    | some q => by_cases h : s.untilWindow p ≤ s.untilWindow q <;> simp [h]

theorem State.phaseFor_eq_none_iff {load : Nat} : s.phaseFor load = none ↔ ∀ p, s.qualifies load p = false := by
  rw [State.phaseFor, State.soonest_eq_none_iff, List.filter_eq_nil_iff]
  exact ⟨fun h p => Bool.eq_false_iff.2 (h p (List.mem_finRange p)), fun h p _ => by simp [h p]⟩

/-! ### An upgrade -/

theorem Feed.cost_le (c : Feed) : c.cost ≤ Feed.full.cost := by
  cases c <;> decide

theorem State.feedCost_le_upgrade (n : LineNo) : s.feedCost ≤ (s.changeFeed n .full).feedCost := by
  refine List.sum_le_sum fun m _ => ?_
  by_cases h : m = n
  · rw [h, State.feed_changeFeed]
    exact Feed.cost_le _
  · rw [State.line_changeFeed_of_ne h]

theorem State.committed_le_upgrade (n : LineNo) : s.committed ≤ (s.changeFeed n .full).committed :=
  State.committed_le rfl (State.feedCost_le_upgrade n) (fun _ => le_rfl) rfl

/-- R96: with a FULL line more no phase qualifies that did not before, so a placement try is still stuck. -/
theorem State.tryPlacement_upgrade (h : s.tryPlacement = s) (n : LineNo) :
    (s.changeFeed n .full).tryPlacement = s.changeFeed n .full := by
  have hqueue : (s.changeFeed n .full).ringQueue = s.ringQueue := rfl
  cases hq : s.ringQueue with
  | nil => exact State.tryPlacement_of_empty (hqueue.trans hq)
  | cons pos rest =>
    have hmem : pos ∈ s.ringQueue := hq ▸ List.mem_cons_self
    obtain ⟨a, ha, _⟩ := inState_iff.1 (List.mem_filter.1 hmem).2
    have hnone := State.phaseFor_eq_none_iff.1 (State.phaseFor_of_stuck h hq ha)
    refine State.tryPlacement_of_no_phase (hqueue.trans hq) ha (State.phaseFor_eq_none_iff.2 fun p => ?_)
    refine Bool.eq_false_iff.2 fun hqualifies => Bool.eq_false_iff.1 (hnone p) ?_
    obtain ⟨hcapacity, hbudget⟩ := of_decide_eq_true hqualifies
    refine decide_eq_true ⟨hcapacity, le_trans ?_ hbudget⟩
    have hfeed := State.feedCost_le_upgrade (s := s) n
    exact Nat.add_le_add_right (Nat.add_le_add_right (Nat.add_le_add_left hfeed _) _) _

/-- Whether a line of the roll is one that an upgrade looks for (R117). -/
def State.upgradable (s : State) (n : LineNo) : Prop :=
  (s.line n).feed = .reduced ∧ (s.line n).ceiling = .full

theorem State.upgradeAlong_append {l : List LineNo} (hl : ∀ n ∈ l, ¬ s.upgradable n) (rest : List LineNo) :
    s.upgradeAlong (l ++ rest) = s.upgradeAlong rest := by
  induction l with
  | nil => rfl
  | cons n l ih =>
    have hn := hl n List.mem_cons_self
    exact (if_neg fun h => hn ⟨h.1, h.2.1⟩).trans (ih fun m hm => hl m (List.mem_cons_of_mem _ hm))

theorem State.upgradeAlong_of_none {l : List LineNo} (h : ∀ n ∈ l, s.upgradable n → s.power.budget < s.committed + 3) :
    s.upgradeAlong l = s := by
  induction l with
  | nil => rfl
  | cons n l ih =>
    refine (if_neg fun hup => ?_).trans (ih fun m hm => h m (List.mem_cons_of_mem _ hm))
    obtain ⟨hfeed, hceiling, hfits⟩ := hup
    exact absurd hfits (Nat.not_le.2 (h n List.mem_cons_self ⟨hfeed, hceiling⟩))

/-! ### Re-evaluation -/

theorem State.admitAlong_of_none (h : s.power.waitList = [] ∨ s.power.budget < s.committed + 6) :
    s.admitAlong s.power.waitList = s := by
  cases hwait : s.power.waitList with
  | nil => rfl
  | cons n rest =>
    have hdenied := State.admission_of_denied n (h.resolve_left (by simp [hwait]))
    unfold State.admitAlong
    rw [hdenied]

/-- R116, step 1: the head of the feed wait list is admitted, and re-evaluation goes on. -/
theorem State.reevaluate_of_admission {n : LineNo} {rest : List LineNo} {c : Feed} (hwait : s.power.waitList = n :: rest)
    (hadmit : s.admission n = some c) : s.reevaluate =
      (({ s with power := { s.power with waitList := rest } } : State).admitLine n c).reevaluate := by
  have hlist : (({ s with power := { s.power with waitList := rest } } : State).admitLine n c).power.waitList = rest := by
    rw [State.admitLine_eq, (State.enterDial_keeps _ n).2.2.2.2.2.2.2.2.1]
    rfl
  have hadmits : s.admitAlong (n :: rest) =
      (({ s with power := { s.power with waitList := rest } } : State).admitLine n c).admitAlong rest := by
    conv_lhs => unfold State.admitAlong
    rw [hadmit]
    dsimp only
    rw [hwait, List.erase_cons_head]
  rw [State.reevaluate, State.reevaluate, hwait, hlist, hadmits]

/-- R116, step 2: with nothing to admit re-evaluation begins with the placement try. -/
theorem State.reevaluate_of_no_admission (h : s.power.waitList = [] ∨ s.power.budget < s.committed + 6)
    (hnodup : s.ring.accepted.Nodup) : s.reevaluate = s.tryPlacement.reevaluate := by
  obtain ⟨hsettled, hle⟩ := State.tryPlacement_settled hnodup
  have hpower : s.tryPlacement.power = s.power := by simp
  have hafter : s.tryPlacement.admitAlong s.tryPlacement.power.waitList = s.tryPlacement := by
    refine State.admitAlong_of_none ?_
    rw [hpower]
    exact h.imp_right fun hlow => by omega
  rw [State.reevaluate, State.reevaluate, State.admitAlong_of_none h, hafter, hsettled]

section

variable (hwait : s.power.waitList = [] ∨ s.power.budget < s.committed + 6) (hstuck : s.tryPlacement = s)
include hwait hstuck

theorem State.reevaluate_of_stuck : s.reevaluate = s.upgradeAlong s.power.roll := by
  rw [State.reevaluate, State.admitAlong_of_none hwait, hstuck]

/-- R117: the first line of the roll that may have FULL is given it, and re-evaluation goes on. -/
theorem State.reevaluate_of_upgrade {front back : List LineNo} {n : LineNo} (hroll : s.power.roll = front ++ n :: back)
    (hfront : ∀ m ∈ front, ¬ s.upgradable m) (hn : s.upgradable n) (hfits : s.committed + 3 ≤ s.power.budget) :
    s.reevaluate = (s.changeFeed n .full).reevaluate := by
  have hwait' : (s.changeFeed n .full).power.waitList = [] ∨
      (s.changeFeed n .full).power.budget < (s.changeFeed n .full).committed + 6 := by
    have hle := State.committed_le_upgrade (s := s) n
    exact hwait.imp_right fun hlow => by
      show s.power.budget < (s.changeFeed n .full).committed + 6
      omega
  have hroll' : (s.changeFeed n .full).power.roll = front ++ n :: back := hroll
  have hfront' (m : LineNo) (hm : m ∈ front ++ [n]) : ¬ (s.changeFeed n .full).upgradable m := by
    rintro ⟨hfeed, hceiling⟩
    by_cases hne : m = n
    · rw [hne, State.feed_changeFeed] at hfeed
      exact Feed.noConfusion hfeed
    · rw [State.line_changeFeed_of_ne hne] at hfeed hceiling
      exact hfront m ((List.mem_append.1 hm).resolve_right (by simpa using hne)) ⟨hfeed, hceiling⟩
  have hstep : s.upgradeAlong (n :: back) = (s.changeFeed n .full).upgradeAlong back := if_pos ⟨hn.1, hn.2, hfits⟩
  rw [State.reevaluate_of_stuck hwait hstuck,
    State.reevaluate_of_stuck hwait' (State.tryPlacement_upgrade hstuck n), hroll, hroll',
    State.upgradeAlong_append hfront, hstep, List.append_cons, State.upgradeAlong_append hfront']

end

/-! ### The flag -/

theorem State.committed_examine (s : State) : s.examine.committed = s.committed := by
  unfold State.examine
  dsimp only
  split
  · rfl
  · rfl

/-- R120: after the examination the flag says whether the total exceeds the budget. -/
theorem State.overcommit_examine (s : State) : s.examine.power.overcommit = decide (s.power.budget < s.committed) := by
  unfold State.examine
  dsimp only
  split
  · exact Eq.symm ‹_›
  · rfl

theorem State.examine_of_set (hover : s.power.budget < s.committed) (hflag : s.power.overcommit = false) :
    s.examine = { s with
      power := { s.power with overcommit := true }
      sli := { s.sli with events := addKind PartEvent.all .overcommitSet s.sli.events } } := by
  rw [State.examine, decide_eq_true hover, hflag]
  rfl

theorem State.examine_of_clear (hfits : s.committed ≤ s.power.budget) (hflag : s.power.overcommit = true) :
    s.examine = { s with
      power := { s.power with overcommit := false }
      sli := { s.sli with events := addKind PartEvent.all .overcommitClear s.sli.events } } := by
  rw [State.examine, decide_eq_false (Nat.not_lt.2 hfits), hflag]
  rfl

theorem State.examine_of_right (h : s.power.overcommit = true ↔ s.power.budget < s.committed) : s.examine = s :=
  if_pos (by
    rw [Bool.eq_iff_iff, decide_eq_true_eq]
    exact h.symm)

end

/-! ### SET_POWER -/

theorem State.setPower_keeps (u : State) (budget capacity : Nat) :
    (u.setPower budget capacity).power.budget = budget ∧ (u.setPower budget capacity).ring.capacity = capacity ∧
      (u.setPower budget capacity).highway = u.highway ∧ (u.setPower budget capacity).test = u.test ∧
      (u.setPower budget capacity).pool = u.pool ∧ (u.setPower budget capacity).sli.replies = u.sli.replies ∧
      (u.setPower budget capacity).periods = u.periods ∧ (u.setPower budget capacity).scanner = u.scanner ∧
      (u.setPower budget capacity).mode = u.mode ∧ (u.setPower budget capacity).straps = u.straps ∧
      (u.setPower budget capacity).now = u.now := by
  have hcut : ∀ t : State, t = (u.setCapacity capacity).setBudget budget → t.power.budget = budget ∧
      t.ring.capacity = capacity ∧ t.highway = u.highway ∧ t.test = u.test ∧ t.pool = u.pool ∧ t.sli = u.sli ∧
      t.periods = u.periods ∧ t.scanner = u.scanner ∧ t.mode = u.mode ∧ t.straps = u.straps ∧ t.now = u.now := by
    rintro t rfl
    unfold State.setBudget State.setCapacity
    dsimp only
    split
    · split
      · simp
      · simp
    · split
      · simp
      · simp
  unfold State.setPower
  dsimp only
  generalize hw : (u.setCapacity capacity).setBudget budget = t
  obtain ⟨h1, h2, h3, h4, h5, h6, h7, h8, h9, h10, h11⟩ := hcut t hw.symm
  split
  · simp [h1, h2, h3, h4, h5, h6, h7, h8, h9, h10, h11]
  · split
    · simp [h1, h2, h3, h4, h5, h6, h7, h8, h9, h10, h11]
    · simp [h1, h2, h3, h4, h5, h6, h7, h8, h9, h10, h11]

theorem State.overcommit_setPower (u : State) (budget capacity : Nat) :
    (u.setPower budget capacity).power.overcommit = true ↔ budget < (u.setPower budget capacity).committed := by
  have hbudget := (u.setPower_keeps budget capacity).1
  unfold State.setPower at hbudget ⊢
  dsimp only at hbudget ⊢
  rw [(State.examine_holds _).1] at hbudget
  rw [State.overcommit_examine, State.committed_examine, decide_eq_true_eq, hbudget]

/-- A request that repeats the values in force of an account within its budget. -/
theorem State.setPower_of_same {u : State} (hfits : u.committed ≤ u.power.budget) (hflag : u.power.overcommit = false) :
    u.setPower u.power.budget u.ring.capacity = u := by
  have hset : (u.setCapacity u.ring.capacity).setBudget u.power.budget = u := by
    have hcapacity : u.setCapacity u.ring.capacity = u := if_neg (Nat.lt_irrefl _)
    rw [hcapacity]
    exact if_neg (Nat.not_lt.2 hfits)
  unfold State.setPower
  dsimp only
  rw [hset, if_neg (by simp), if_neg (Nat.lt_irrefl _)]
  exact State.examine_of_right (by simp [hflag, hfits])

theorem exec_setPower {s : State} (hroom : s.sli.replies.length < 4) (budget capacity : Nat) :
    exec (.setPower budget capacity) s =
      .next (replied ((arrived s).setPower (min 600 budget) (max 1 (min 12 capacity))) 0x98
        [0, octet (min 600 budget / 256), octet (min 600 budget), octet (max 1 (min 12 capacity))]) := by
  have hbudget : clampBudget budget = min 600 budget := Nat.zero_max _
  have hcapacity : clampCapacity capacity = max 1 (min 12 capacity) := rfl
  refine exec_request_of_serve (r := .setPower budget capacity) rfl hroom ?_
  simp only [Request.serve, State.serveSetPower, hbudget, hcapacity]
  rfl

/-- Settles O22: the steps of the request, then one step of fitting, of re-evaluation and of the flag at a time. -/
theorem setPowerTakesItsSteps : Obligations.SetPowerTakesItsSteps := by
  unfold Obligations.SetPowerTakesItsSteps
  refine ⟨fun s budget capacity hroom => ?_, fun s => ?_⟩
  · intro u newBudget newCapacity taken fitted limited left w
    have hw : u.setPower newBudget newCapacity = w := rfl
    obtain ⟨hbudget, hcapacity, hkept⟩ := u.setPower_keeps newBudget newCapacity
    refine ⟨exec_setPower hroom budget capacity, hbudget, hcapacity, u.overcommit_setPower newBudget newCapacity,
      fun hsame hsame' hfits hflag => ?_, hkept⟩
    rw [← hw, hsame, hsame']
    exact State.setPower_of_same (hsame ▸ hfits) hflag
  · refine ⟨fun hfits => foldl_fitPhase_of_fits fun p _ => hfits p,
      fun p front pos back a habove hbelow horder hfront ha hplaced hphase hback => ?_,
      fun pos a ha h => (State.untouched_fitPhases ⟨ha, h⟩).1, fun n rest hwait => ?_, fun hwait => ⟨fun hnodup => ?_,
      fun hstuck => ⟨fun front n back hroll hfront hfeed hceiling hfits => ?_, fun hnone => ?_⟩⟩, fun before => apply_ite State.examine _ _ _,
      State.examine_of_set, State.examine_of_clear, State.examine_of_right⟩
    · have herase : s.ring.placed.erase pos = front ++ back := by
        rw [horder, List.erase_append_right _ hfront, List.erase_cons_head]
      rw [State.fitPhases_of_above habove hbelow horder hfront ha hplaced hphase hback, State.unplace_of_some ha, herase]
    · intro admitted
      have hadmitted {c : Feed} (h : s.admission n = some c) : admitted c := by
        show s.reevaluate = _
        rw [State.reevaluate_of_admission hwait h, State.admitLine_eq]
      exact ⟨fun hceiling hfits => hadmitted (State.admission_of_full hceiling hfits),
        fun hreduced hfits => hadmitted (State.admission_of_reduced hreduced hfits)⟩
    · exact State.reevaluate_of_no_admission hwait hnodup
    · rw [State.reevaluate_of_upgrade hwait hstuck hroll hfront ⟨hfeed, hceiling⟩ hfits, State.changeFeed_eq]
    · rw [State.reevaluate_of_stuck hwait hstuck]
      exact State.upgradeAlong_of_none fun n hn h => hnone n hn h.1 h.2

end Sys2Proof.Machine

/-! PROOF. One step: the command at the front of the queue, or an event of the part's own that has fallen due, or one
millisecond passing (R1, R2, log entries 1 and 3). -/

namespace Sys2Proof.Machine

open Sys2Proof.Slice0

/-- Settles O1: the front command is taken off the queue and executed. -/
theorem stepRunsTheFrontCommand : Obligations.StepRunsTheFrontCommand := by
  unfold Obligations.StepRunsTheFrontCommand
  intro c rest s h
  unfold step
  rw [h]

/-! ### What is due at each block -/

theorem mem_dueIf {b : Bool} {c d : Instr} : c ∈ dueIf b d ↔ b = true ∧ c = d := by
  cases b <;> simp [dueIf]

section

variable {s : State}

/-- R12: the release point of a line is due unless an OFF run holds it. -/
theorem isDue_releasePoint_iff {n : LineNo} : (reached s.now (s.scan n).releasePoint &&
    !((s.line n).callState.isRelease && s.releaseHeld n)) = true ↔ isDue s (.releasePointReached n) := by
  have hheld : s.releaseHeld n = true ↔ (s.scan n).hook = .on ∧ ∃ b r, (s.scan n).runStart = some b ∧
      (s.scan n).releasePoint = some r ∧ b < r := by
    cases hook : (s.scan n).hook with
    | on => simp [State.releaseHeld_iff hook]
    | off => simp [State.releaseHeld, hook]
  rw [Bool.and_eq_true, reached_iff, Bool.not_eq_true', Bool.and_eq_false_iff]
  refine ⟨fun ⟨⟨r, hr, hle⟩, hfree⟩ => ⟨r, hr, hle, fun ⟨hstate, hook, b, hb, hlt⟩ => ?_⟩,
    fun ⟨r, hr, hle, hfree⟩ => ⟨⟨r, hr, hle⟩, ?_⟩⟩
  · obtain hfree | hfree := hfree
    · simp [hfree] at hstate
    · rw [hheld.2 ⟨hook, b, r, hb, hr, hlt⟩] at hfree
      exact Bool.noConfusion hfree
  · by_cases hstate : (s.line n).callState.isRelease = true
    · refine .inr (Bool.eq_false_iff.2 fun h => hfree ?_)
      obtain ⟨hook, b, q, hb, hq, hlt⟩ := hheld.1 h
      obtain rfl : r = q := Option.some.inj (hr.symm.trans hq)
      exact ⟨hstate, hook, b, hb, hlt⟩
    · exact .inl (Bool.eq_false_iff.2 hstate)

/-- R8, R9: the gap point of a line is due unless a run or a break that began before it holds it. -/
theorem isDue_gapPoint_iff {n : LineNo} :
    (reached s.now (s.scan n).gapPoint && !s.gapHeld n) = true ↔ isDue s (.gapPointReached n) := by
  rw [Bool.and_eq_true, reached_iff, Bool.not_eq_true', Bool.eq_false_iff]
  refine ⟨fun ⟨⟨g, hg, hle⟩, hfree⟩ => ⟨g, hg, hle, fun h => hfree ((State.gapHeld_iff hg).2 h)⟩,
    fun ⟨g, hg, hle, hfree⟩ => ⟨⟨g, hg, hle⟩, fun h => hfree ((State.gapHeld_iff hg).1 h)⟩⟩

/-- R38: the expiry of a state timer is due in the state its kind belongs to. -/
theorem State.mem_dueTimeout_iff {n : LineNo} {c : Instr} : c ∈ s.dueTimeout n ↔
    ∃ k state, timesOut s n k state ∧ timeoutCommand k state n = some c := by
  unfold State.dueTimeout
  cases ht : (s.line n).timer with
  | none =>
    refine ⟨fun h => absurd h List.not_mem_nil, fun ⟨k, state, ⟨_, x, hx, _⟩, _⟩ => ?_⟩
    simp [ht] at hx
  | some t =>
    dsimp only
    split
    next hle =>
      rw [Option.mem_toList]
      refine ⟨fun h => ⟨t.kind, _, ⟨rfl, t.expires, ht, hle⟩, h⟩, fun ⟨k, state, ⟨hstate, x, hx, _⟩, h⟩ => ?_⟩
      rw [ht] at hx
      rw [Option.some.inj hx, hstate]
      exact h
    next hnot =>
      refine ⟨fun h => absurd h List.not_mem_nil, fun ⟨k, state, ⟨_, x, hx, hle⟩, _⟩ => absurd ?_ hnot⟩
      rw [ht] at hx
      rw [Option.some.inj hx]
      exact hle

theorem isDue_of_timeoutCommand {n : LineNo} {c : Instr} {k : TimerKind} {state : CallState} (h : timesOut s n k state)
    (hc : timeoutCommand k state n = some c) : isDue s c := by
  unfold timeoutCommand at hc
  split at hc
  case h_7 => cases hc
  all_goals
    cases hc
    exact h

/-- R8, R12, R38: what is due on a line. -/
theorem State.mem_dueOfLine_iff {n : LineNo} {c : Instr} : c ∈ s.dueOfLine n ↔
    isDue s (.releasePointReached n) ∧ c = .releasePointReached n ∨ isDue s (.gapPointReached n) ∧ c = .gapPointReached n ∨
      ∃ k state, timesOut s n k state ∧ timeoutCommand k state n = some c := by
  rw [State.dueOfLine, State.dueOfScanner, List.mem_append, List.mem_append, mem_dueIf, mem_dueIf, isDue_releasePoint_iff,
    isDue_gapPoint_iff, State.mem_dueTimeout_iff, or_assoc]

/-- R103, R128: what is due on the alert at a position. -/
theorem State.mem_dueOfAlert_iff {p : AlertPos} {c : Instr} : c ∈ s.dueOfAlert p ↔
    isDue s (.ringTimeout p) ∧ c = .ringTimeout p ∨ isDue s (.ringSegmentEnd p) ∧ c = .ringSegmentEnd p := by
  unfold State.dueOfAlert
  cases ha : s.alertAt p with
  | none =>
    refine ⟨fun h => absurd h List.not_mem_nil, ?_⟩
    rintro (⟨⟨a, x, ha', _⟩, _⟩ | ⟨⟨a, b, ha', _⟩, _⟩)
    · simp [ha] at ha'
    · simp [ha] at ha'
  | some a =>
    have htimeout : (reached s.now a.expires && a.state.outstanding) = true ↔ isDue s (.ringTimeout p) := by
      rw [Bool.and_eq_true, reached_iff, AlertState.outstanding_iff]
      refine ⟨fun ⟨⟨x, hx, hle⟩, hstate⟩ => ⟨a, x, ha, hx, hle, hstate⟩, fun ⟨b, x, hb, hx, hle, hstate⟩ => ?_⟩
      obtain rfl : a = b := Option.some.inj (ha.symm.trans hb)
      exact ⟨⟨x, hx, hle⟩, hstate⟩
    have hsegment : reached s.now (a.burst.map Burst.ends) = true ↔ isDue s (.ringSegmentEnd p) := by
      rw [reached_iff]
      refine ⟨fun ⟨x, hx, hle⟩ => ?_, fun ⟨c, b, hc, hb, hle⟩ => ?_⟩
      · obtain ⟨b, hb, rfl⟩ := Option.map_eq_some_iff.1 hx
        exact ⟨a, b, ha, hb, hle⟩
      · obtain rfl : a = c := Option.some.inj (ha.symm.trans hc)
        exact ⟨b.ends, by rw [hb, Option.map_some], hle⟩
    dsimp only
    rw [List.mem_append, mem_dueIf, mem_dueIf, htimeout, hsegment]

theorem State.mem_dueOfPhase_iff {p : PhaseNo} {c : Instr} :
    c ∈ s.dueOfPhase p ↔ isDue s (.phaseWindowStart p) ∧ c = .phaseWindowStart p := by
  rw [State.dueOfPhase, mem_dueIf, decide_eq_true_eq]
  rfl

theorem State.mem_dueOfTone_iff {k : ToneKind} {c : Instr} :
    c ∈ s.dueOfTone k ↔ isDue s (.toneSegmentEnd k) ∧ c = .toneSegmentEnd k := by
  have hends : reached s.now (s.toneSegmentEnds k) = true ↔ isDue s (.toneSegmentEnd k) := by
    rw [reached_iff]
    unfold State.toneSegmentEnds
    cases hq : s.tones.source k with
    | none =>
      refine ⟨fun ⟨x, hx, _⟩ => ?_, fun ⟨q, hq', _⟩ => ?_⟩
      · cases hx
      · simp [hq] at hq'
    | some q =>
      dsimp only
      by_cases hone : s.tones.cadences[toneEntry k].length ≤ 1
      · rw [if_pos hone]
        refine ⟨fun ⟨x, hx, _⟩ => ?_, fun ⟨_, _, htwo, _⟩ => ?_⟩
        · cases hx
        · omega
      · rw [if_neg hone]
        refine ⟨fun ⟨x, hx, hle⟩ => ⟨q, hq, by omega, (Option.some.inj hx).symm ▸ hle⟩, fun ⟨r, hr, _, hle⟩ => ⟨_, rfl, ?_⟩⟩
        obtain rfl : q = r := Option.some.inj (hq.symm.trans hr)
        exact hle
  rw [State.dueOfTone, mem_dueIf, hends]

/-- R140, R141: what is due on the running test. -/
theorem State.mem_dueOfTest_iff {c : Instr} : c ∈ s.dueOfTest ↔
    isDue s .testInjection ∧ c = .testInjection ∨ isDue s .testDurationExpiry ∧ c = .testDurationExpiry := by
  unfold State.dueOfTest
  cases ht : s.test with
  | none =>
    refine ⟨fun h => absurd h List.not_mem_nil, ?_⟩
    rintro (⟨⟨t, ht', _⟩, _⟩ | ⟨⟨t, ht', _⟩, _⟩)
    · simp [ht] at ht'
    · simp [ht] at ht'
  | some t =>
    have hinjection : t.injectionDue s.now = true ↔ isDue s .testInjection := by
      rw [TestContext.injectionDue, decide_eq_true_eq]
      refine ⟨fun h => ⟨t, ht, h⟩, fun ⟨x, hx, h⟩ => ?_⟩
      obtain rfl : t = x := Option.some.inj (ht.symm.trans hx)
      exact h
    have hexpiry : decide (t.began + 1000 * t.duration ≤ s.now) = true ↔ isDue s .testDurationExpiry := by
      rw [decide_eq_true_eq]
      refine ⟨fun h => ⟨t, ht, h⟩, fun ⟨x, hx, h⟩ => ?_⟩
      obtain rfl : t = x := Option.some.inj (ht.symm.trans hx)
      exact h
    dsimp only
    rw [List.mem_append, mem_dueIf, mem_dueIf, hinjection, hexpiry]

/-- R147 to R149: what is due at the Highway Monitor. -/
theorem State.mem_dueOfHighway_iff {c : Instr} : c ∈ s.dueOfHighway ↔
    isDue s .highwayLoss ∧ c = .highwayLoss ∨ isDue s .highwayRestore ∧ c = .highwayRestore ∨
      isDue s .graceTimerExpiry ∧ c = .graceTimerExpiry := by
  have hloss : (decide (s.mode.mode = .active) && reached s.now (s.highway.lossFrom.map (· + 1))) = true ↔
      isDue s .highwayLoss := by
    rw [Bool.and_eq_true, decide_eq_true_eq, reached_iff]
    refine and_congr_right fun _ => ⟨fun ⟨y, hy, hle⟩ => ?_, fun ⟨x, hx, hle⟩ => ⟨x + 1, by rw [hx]; rfl, hle⟩⟩
    obtain ⟨x, hx, rfl⟩ := Option.map_eq_some_iff.1 hy
    exact ⟨x, hx, hle⟩
  rw [State.dueOfHighway, List.mem_append, List.mem_append, mem_dueIf, mem_dueIf, mem_dueIf, hloss, reached_iff, reached_iff,
    or_assoc]
  rfl

/-! ### What is due at the supervisory line -/

theorem State.flaggedAlert_eq_none_iff :
    s.flaggedAlert = none ↔ ∀ p a, s.alertAt p = some a → a.reportPending = false := by
  refine ⟨fun h p a ha => Bool.eq_false_iff.2 fun hflag => ?_, State.flaggedAlert_eq_none⟩
  obtain ⟨q, hq⟩ := State.exists_flaggedAlert ⟨p, a, ha, hflag⟩
  simp [h] at hq

theorem State.eventfulBearer_eq_none_iff : s.eventfulBearer = none ↔ ∀ b, (s.bearer b).events = [] := by
  refine ⟨fun h b => not_not.1 fun hb => ?_, State.eventfulBearer_eq_none⟩
  obtain ⟨q, hq⟩ := State.exists_eventfulBearer ⟨b, hb⟩
  simp [h] at hq

/-- R168: an IDLE transmitter has one frame to begin at most, and its command is the one due. -/
theorem isDue_of_choice (hidle : s.sli.sending = none) {x : Choice} (h : s.choice = some x) : isDue s x.command := by
  by_cases hreplies : s.sli.replies = []
  · by_cases hevents : s.sli.events = []
    · cases halert : s.flaggedAlert with
      | some p =>
        obtain rfl := Option.some.inj (h.symm.trans (State.choice_of_alert hreplies hevents halert))
        refine ⟨hidle, hreplies, hevents, not_forall_not.1 fun hnone => ?_⟩
        have hquiet : s.flaggedAlert = none := State.flaggedAlert_eq_none fun q a ha =>
          Bool.eq_false_iff.2 fun hflag => hnone q ⟨a, ha, hflag⟩
        simp [hquiet] at halert
      | none =>
        have hquiet := State.flaggedAlert_eq_none_iff.1 halert
        cases hbearer : s.eventfulBearer with
        | some b =>
          obtain rfl := Option.some.inj (h.symm.trans (State.choice_of_bearer hreplies hevents halert hbearer))
          refine ⟨hidle, hreplies, hevents, hquiet, not_forall.1 fun hnone => ?_⟩
          simp [State.eventfulBearer_eq_none hnone] at hbearer
        | none =>
          rw [State.choice_of_no_bearer hreplies hevents halert hbearer] at h
          obtain ⟨n, hn, rfl⟩ := Option.map_eq_some_iff.1 h
          refine ⟨hidle, hreplies, hevents, hquiet, State.eventfulBearer_eq_none_iff.1 hbearer, not_forall.1 fun hnone => ?_⟩
          simp [State.eventfulLine_eq_none hnone] at hn
    · obtain rfl := Option.some.inj (h.symm.trans (State.choice_of_part hreplies hevents))
      exact ⟨hidle, hreplies, hevents⟩
  · obtain rfl := Option.some.inj (h.symm.trans (State.choice_of_reply hreplies))
    exact ⟨hidle, hreplies⟩

/-- The begin commands of the transmitter (R168). -/
def isBegin (c : Instr) : Prop :=
  c = .replyTransmit ∨ c = .partReport ∨ c = .alertReport ∨ c = .bearerReport ∨ c = .lineReport

theorem isBegin_command (x : Choice) : isBegin x.command := by
  cases x <;> simp [isBegin, Choice.command]

theorem exists_choice_of_isDue {c : Instr} (hc : isBegin c) (h : isDue s c) :
    s.sli.sending = none ∧ ∃ x, s.choice = some x ∧ x.command = c := by
  obtain rfl | rfl | rfl | rfl | rfl := hc
  · obtain ⟨hidle, hreplies⟩ := h
    exact ⟨hidle, _, State.choice_of_reply hreplies, rfl⟩
  · obtain ⟨hidle, hreplies, hevents⟩ := h
    exact ⟨hidle, _, State.choice_of_part hreplies hevents, rfl⟩
  · obtain ⟨hidle, hreplies, hevents, hflagged⟩ := h
    obtain ⟨p, hp⟩ := State.exists_flaggedAlert hflagged
    exact ⟨hidle, _, State.choice_of_alert hreplies hevents hp, rfl⟩
  · obtain ⟨hidle, hreplies, hevents, hquiet, heventful⟩ := h
    obtain ⟨b, hb⟩ := State.exists_eventfulBearer heventful
    exact ⟨hidle, _, State.choice_of_bearer hreplies hevents (State.flaggedAlert_eq_none hquiet) hb, rfl⟩
  · obtain ⟨hidle, hreplies, hevents, hquiet, hbearers, heventful⟩ := h
    obtain ⟨n, hn⟩ := State.exists_eventfulLine heventful
    refine ⟨hidle, .line n, ?_, rfl⟩
    rw [State.choice_of_no_bearer hreplies hevents (State.flaggedAlert_eq_none hquiet)
      (State.eventfulBearer_eq_none hbearers), hn]
    rfl

theorem State.mem_dueOfTransmitter_iff {c : Instr} : c ∈ s.dueOfTransmitter ↔ isBegin c ∧ isDue s c := by
  unfold State.dueOfTransmitter
  cases hsending : s.sli.sending with
  | some f =>
    refine ⟨fun h => absurd h List.not_mem_nil, fun ⟨hc, h⟩ => ?_⟩
    have hidle := (exists_choice_of_isDue hc h).1
    simp [hsending] at hidle
  | none =>
    dsimp only
    rw [Option.mem_toList]
    refine ⟨fun h => ?_, fun ⟨hc, h⟩ => ?_⟩
    · obtain ⟨x, hx, rfl⟩ := Option.map_eq_some_iff.1 h
      exact ⟨isBegin_command x, isDue_of_choice hsending hx⟩
    · obtain ⟨_, x, hx, rfl⟩ := exists_choice_of_isDue hc h
      exact Option.map_eq_some_iff.2 ⟨x, hx, rfl⟩

/-- R154, R160, R165, R168: what is due at the supervisory line and at Mode Control. -/
theorem State.mem_dueOfSli_iff {c : Instr} : c ∈ s.dueOfSli ↔
    isDue s .receiveGap ∧ c = .receiveGap ∨ isDue s .frameSent ∧ c = .frameSent ∨ (isBegin c ∧ isDue s c) ∨
      isDue s .supervisionTimeout ∧ c = .supervisionTimeout ∨ isDue s .limitTimerExpiry ∧ c = .limitTimerExpiry := by
  have hgap : (s.sli.hunter.inFrame && decide (s.sli.lastOctet + Config.octetGapMs < s.now)) = true ↔
      isDue s .receiveGap := by
    rw [Bool.and_eq_true, decide_eq_true_eq]
    refine and_congr_left fun _ => ?_
    cases s.sli.hunter <;> simp [Hunter.inFrame]
  have hsent : s.frameEnded = true ↔ isDue s .frameSent := by
    unfold State.frameEnded
    cases hsending : s.sli.sending with
    | none => exact ⟨fun h => absurd h Bool.noConfusion, fun ⟨f, hf, _⟩ => by simp [hsending] at hf⟩
    | some f =>
      refine decide_eq_true_iff.trans ⟨fun h => ⟨f, hsending, h⟩, fun ⟨g, hg, h⟩ => ?_⟩
      obtain rfl : f = g := Option.some.inj (hsending.symm.trans hg)
      exact h
  have hlimit : (decide (s.mode.mode = .conserve) && reached s.now s.mode.limit) = true ↔ isDue s .limitTimerExpiry := by
    rw [Bool.and_eq_true, decide_eq_true_eq, reached_iff]
    rfl
  rw [State.dueOfSli]
  simp only [List.mem_append, mem_dueIf, hgap, hsent, hlimit, reached_iff, State.mem_dueOfTransmitter_iff, or_assoc]
  rfl

/-! ### What is due -/

theorem State.mem_dueSamples_iff {c : Instr} :
    c ∈ s.dueSamples ↔ ∃ n ∈ s.scanner.unsampled, c = .sampleInstant n (s.loop n) := by
  rw [State.dueSamples, List.mem_map]
  exact exists_congr fun n => and_congr_right fun _ => eq_comm

theorem State.mem_dueCommands_iff_blocks {c : Instr} : c ∈ s.dueCommands ↔
    (∃ n ∈ s.scanner.unsampled, c = .sampleInstant n (s.loop n)) ∨
      (isDue s .groupTimerExpiry ∧ c = .groupTimerExpiry) ∨ (∃ n, c ∈ s.dueOfLine n) ∨ (∃ p, c ∈ s.dueOfAlert p) ∨
      (∃ p, c ∈ s.dueOfPhase p) ∨ (∃ k, c ∈ s.dueOfTone k) ∨ c ∈ s.dueOfTest ∨ c ∈ s.dueOfHighway ∨ c ∈ s.dueOfSli := by
  have hblocks {k : Nat} (f : Fin k → List Instr) : c ∈ ((List.finRange k).map f).flatten ↔ ∃ n, c ∈ f n := by simp
  have htones : c ∈ ([ToneKind.dial, .busy, .congestion, .howler].map s.dueOfTone).flatten ↔ ∃ k, c ∈ s.dueOfTone k := by
    rw [List.mem_flatten]
    refine ⟨fun ⟨l, hl, hc⟩ => ?_, fun ⟨k, hk⟩ => ⟨_, List.mem_map.2 ⟨k, by cases k <;> simp, rfl⟩, hk⟩⟩
    obtain ⟨k, _, rfl⟩ := List.mem_map.1 hl
    exact ⟨k, hc⟩
  simp only [State.dueCommands, allLines, allPositions, allPhases, List.mem_append, hblocks, htones, mem_dueIf,
    State.mem_dueSamples_iff, reached_iff, or_assoc]
  rfl

section

variable {c : Instr}

theorem isDue_of_mem_dueCommands (h : c ∈ s.dueCommands) : isDue s c := by
  obtain ⟨n, hn, rfl⟩ | ⟨hdue, rfl⟩ | ⟨n, h⟩ | ⟨p, h⟩ | ⟨p, h⟩ | ⟨k, h⟩ | h | h | h := State.mem_dueCommands_iff_blocks.1 h
  · exact ⟨hn, rfl⟩
  · exact hdue
  · obtain ⟨hdue, rfl⟩ | ⟨hdue, rfl⟩ | ⟨k, state, hout, hc⟩ := State.mem_dueOfLine_iff.1 h
    · exact hdue
    · exact hdue
    · exact isDue_of_timeoutCommand hout hc
  · obtain ⟨hdue, rfl⟩ | ⟨hdue, rfl⟩ := State.mem_dueOfAlert_iff.1 h
    · exact hdue
    · exact hdue
  · obtain ⟨hdue, rfl⟩ := State.mem_dueOfPhase_iff.1 h
    exact hdue
  · obtain ⟨hdue, rfl⟩ := State.mem_dueOfTone_iff.1 h
    exact hdue
  · obtain ⟨hdue, rfl⟩ | ⟨hdue, rfl⟩ := State.mem_dueOfTest_iff.1 h
    · exact hdue
    · exact hdue
  · obtain ⟨hdue, rfl⟩ | ⟨hdue, rfl⟩ | ⟨hdue, rfl⟩ := State.mem_dueOfHighway_iff.1 h
    · exact hdue
    · exact hdue
    · exact hdue
  · obtain ⟨hdue, rfl⟩ | ⟨hdue, rfl⟩ | ⟨_, hdue⟩ | ⟨hdue, rfl⟩ | ⟨hdue, rfl⟩ := State.mem_dueOfSli_iff.1 h
    · exact hdue
    · exact hdue
    · exact hdue
    · exact hdue
    · exact hdue

theorem mem_dueCommands_of_line {n : LineNo} (h : c ∈ s.dueOfLine n) : c ∈ s.dueCommands :=
  State.mem_dueCommands_iff_blocks.2 (.inr (.inr (.inl ⟨n, h⟩)))

theorem mem_dueCommands_of_timeout {n : LineNo} {k : TimerKind} {state : CallState} (h : timesOut s n k state)
    (hc : timeoutCommand k state n = some c) : c ∈ s.dueCommands :=
  mem_dueCommands_of_line (State.mem_dueOfLine_iff.2 (.inr (.inr ⟨k, state, h, hc⟩)))

theorem mem_dueCommands_of_alert {p : AlertPos} (h : c ∈ s.dueOfAlert p) : c ∈ s.dueCommands :=
  State.mem_dueCommands_iff_blocks.2 (.inr (.inr (.inr (.inl ⟨p, h⟩))))

theorem mem_dueCommands_of_test (h : c ∈ s.dueOfTest) : c ∈ s.dueCommands :=
  State.mem_dueCommands_iff_blocks.2 (.inr (.inr (.inr (.inr (.inr (.inr (.inl h)))))))

theorem mem_dueCommands_of_highway (h : c ∈ s.dueOfHighway) : c ∈ s.dueCommands :=
  State.mem_dueCommands_iff_blocks.2 (.inr (.inr (.inr (.inr (.inr (.inr (.inr (.inl h))))))))

theorem mem_dueCommands_of_sli (h : c ∈ s.dueOfSli) : c ∈ s.dueCommands :=
  State.mem_dueCommands_iff_blocks.2 (.inr (.inr (.inr (.inr (.inr (.inr (.inr (.inr h))))))))

theorem mem_dueCommands_of_begin (hc : isBegin c) (h : isDue s c) : c ∈ s.dueCommands :=
  mem_dueCommands_of_sli (State.mem_dueOfSli_iff.2 (.inr (.inr (.inl ⟨hc, h⟩))))

end

theorem mem_dueCommands_of_isDue {c : Instr} (h : isDue s c) : c ∈ s.dueCommands := by
  cases c with
  | sampleInstant n x =>
    obtain ⟨hn, rfl⟩ := h
    exact State.mem_dueCommands_iff_blocks.2 (.inl ⟨n, hn, rfl⟩)
  | groupTimerExpiry => exact State.mem_dueCommands_iff_blocks.2 (.inr (.inl ⟨h, rfl⟩))
  | releasePointReached n => exact mem_dueCommands_of_line (State.mem_dueOfLine_iff.2 (.inl ⟨h, rfl⟩))
  | gapPointReached n => exact mem_dueCommands_of_line (State.mem_dueOfLine_iff.2 (.inr (.inl ⟨h, rfl⟩)))
  | firstDigitTimeout n => exact mem_dueCommands_of_timeout (k := .firstDigit) h rfl
  | interdigitTimeout n => exact mem_dueCommands_of_timeout (k := .interdigit) h rfl
  | receiverWaitTimeout n => exact mem_dueCommands_of_timeout (k := .wait) h rfl
  | queueWaitTimeout n => exact mem_dueCommands_of_timeout (k := .wait) h rfl
  | clearingTimeout n => exact mem_dueCommands_of_timeout (k := .clearing) h rfl
  | howlerTimeout n => exact mem_dueCommands_of_timeout (k := .howler) h rfl
  | ringTimeout p => exact mem_dueCommands_of_alert (State.mem_dueOfAlert_iff.2 (.inl ⟨h, rfl⟩))
  | ringSegmentEnd p => exact mem_dueCommands_of_alert (State.mem_dueOfAlert_iff.2 (.inr ⟨h, rfl⟩))
  | phaseWindowStart p =>
    exact State.mem_dueCommands_iff_blocks.2
      (.inr (.inr (.inr (.inr (.inl ⟨p, State.mem_dueOfPhase_iff.2 ⟨h, rfl⟩⟩)))))
  | toneSegmentEnd k =>
    exact State.mem_dueCommands_iff_blocks.2
      (.inr (.inr (.inr (.inr (.inr (.inl ⟨k, State.mem_dueOfTone_iff.2 ⟨h, rfl⟩⟩))))))
  | testInjection => exact mem_dueCommands_of_test (State.mem_dueOfTest_iff.2 (.inl ⟨h, rfl⟩))
  | testDurationExpiry => exact mem_dueCommands_of_test (State.mem_dueOfTest_iff.2 (.inr ⟨h, rfl⟩))
  | highwayLoss => exact mem_dueCommands_of_highway (State.mem_dueOfHighway_iff.2 (.inl ⟨h, rfl⟩))
  | highwayRestore => exact mem_dueCommands_of_highway (State.mem_dueOfHighway_iff.2 (.inr (.inl ⟨h, rfl⟩)))
  | graceTimerExpiry => exact mem_dueCommands_of_highway (State.mem_dueOfHighway_iff.2 (.inr (.inr ⟨h, rfl⟩)))
  | receiveGap => exact mem_dueCommands_of_sli (State.mem_dueOfSli_iff.2 (.inl ⟨h, rfl⟩))
  | frameSent => exact mem_dueCommands_of_sli (State.mem_dueOfSli_iff.2 (.inr (.inl ⟨h, rfl⟩)))
  | supervisionTimeout => exact mem_dueCommands_of_sli (State.mem_dueOfSli_iff.2 (.inr (.inr (.inr (.inl ⟨h, rfl⟩)))))
  | limitTimerExpiry => exact mem_dueCommands_of_sli (State.mem_dueOfSli_iff.2 (.inr (.inr (.inr (.inr ⟨h, rfl⟩)))))
  | replyTransmit | partReport | alertReport | bearerReport | lineReport =>
    exact mem_dueCommands_of_begin (by simp [isBegin]) h
  | powerOn | partQuery | lineQuery | bearerQuery | lineConfig | energize | deenergize | clear | alert | cancelAlert
  | blockBearer | unblockBearer | testBearer | setPower | setTimers | loadPlan | loadCadence | conserve | restart
  | unknownRequest | frameDiscarded | octetReceived | onTransition | offTransition | debounceRunFails | receiverDigit | lock
  | bitError | lockLost | framePulse =>
    exact False.elim h

/-- Log entry 1: the model's list of what has fallen due is that of the statement. -/
theorem State.mem_dueCommands_iff {c : Instr} : c ∈ s.dueCommands ↔ isDue s c :=
  ⟨isDue_of_mem_dueCommands, mem_dueCommands_of_isDue⟩

/-! ### One event, or one millisecond -/

/-- Log entry 3: one of the events that have fallen due is taken, if there is one. -/
theorem State.nextDue_cases (s : State) :
    (s.dueEvents = [] ∧ s.nextDue = none) ∨ ∃ e ∈ s.dueEvents, s.nextDue = some e := by
  unfold State.nextDue
  cases h : s.dueEvents with
  | nil => exact .inl ⟨rfl, rfl⟩
  | cons e rest =>
    right
    cases rest with
    | nil => exact ⟨e, List.mem_cons_self, rfl⟩
    | cons f rest =>
      refine ⟨_, ?_, rfl⟩
      rw [List.getD_eq_getElem _ _ (Nat.mod_lt _ (by simp))]
      exact List.getElem_mem _

theorem State.dueEvents_eq_nil_iff :
    s.dueEvents = [] ↔ (∀ c, ¬ isDue s c) ∧ s.scanner.handed = [] := by
  rw [State.dueEvents, List.append_eq_nil_iff, List.map_eq_nil_iff, List.map_eq_nil_iff, List.eq_nil_iff_forall_not_mem]
  simp only [State.mem_dueCommands_iff]

theorem State.step_of_idle (h : s.pending = []) : step s = (atInstant s).idleOn := by
  unfold step
  rw [h]
  exact congrArg State.idleOn s.beginInstant_eq_atInstant

theorem State.idleOn_of_due (h : s.dueEvents ≠ []) :
    (∃ c, isDue s c ∧ s.idleOn = exec c { s with fresh := s.fresh + 1 }) ∨
      ∃ x ∈ s.scanner.handed, s.idleOn = .next (({ s with fresh := s.fresh + 1 } : State).takeHanded x) := by
  obtain ⟨hnil, _⟩ | ⟨e, he, hnext⟩ := s.nextDue_cases
  · exact absurd hnil h
  · have htake : s.idleOn = ({ s with fresh := s.fresh + 1 } : State).takeDue e := by
      unfold State.idleOn
      rw [hnext]
    rw [htake]
    obtain he | he := List.mem_append.1 he
    · obtain ⟨c, hc, rfl⟩ := List.mem_map.1 he
      exact .inl ⟨c, State.mem_dueCommands_iff.1 hc, rfl⟩
    · obtain ⟨x, hx, rfl⟩ := List.mem_map.1 he
      exact .inr ⟨x, hx, rfl⟩

theorem State.idleOn_of_nothing (h : s.dueEvents = []) : s.idleOn = .next s.tick := by
  obtain ⟨_, hnext⟩ | ⟨e, he, _⟩ := s.nextDue_cases
  · unfold State.idleOn
    rw [hnext]
  · rw [h] at he
    exact absurd he List.not_mem_nil

/-! ### The bits of one millisecond -/

/-- What the bits of a test leave as it was: the request's values and the count of injections. -/
def TestContext.sameTest (t u : TestContext) : Prop :=
  u.bearer = t.bearer ∧ u.duration = t.duration ∧ u.threshold = t.threshold ∧ u.inject = t.inject ∧
    u.yields = t.yields ∧ u.began = t.began ∧ u.injections = t.injections ∧
    (t.errorCount ≤ 255 → t.errorCount ≤ u.errorCount ∧ u.errorCount ≤ 255)

theorem TestContext.sameTest_of_errorCount {t u : TestContext} (h : u.bearer = t.bearer ∧ u.duration = t.duration ∧
    u.threshold = t.threshold ∧ u.inject = t.inject ∧ u.yields = t.yields ∧ u.began = t.began ∧
    u.injections = t.injections) (he : u.errorCount = t.errorCount ∨ u.errorCount = min 255 (t.errorCount + 1)) :
    t.sameTest u := by
  obtain ⟨h1, h2, h3, h4, h5, h6, h7⟩ := h
  exact ⟨h1, h2, h3, h4, h5, h6, h7, fun hle => by omega⟩

theorem TestContext.sameTest_trans {t u v : TestContext} (h : t.sameTest u) (h' : u.sameTest v) : t.sameTest v := by
  obtain ⟨h1, h2, h3, h4, h5, h6, h7, h8⟩ := h
  obtain ⟨k1, k2, k3, k4, k5, k6, k7, k8⟩ := h'
  refine ⟨k1.trans h1, k2.trans h2, k3.trans h3, k4.trans h4, k5.trans h5, k6.trans h6, k7.trans h7, fun hle => ?_⟩
  obtain ⟨hlow, hhigh⟩ := h8 hle
  exact ⟨hlow.trans (k8 hhigh).1, (k8 hhigh).2⟩

/-- R140: a bit changes the count of errors by one mismatch at most. -/
theorem TestContext.sameTest_readBit (t : TestContext) (bit : Bool) : t.sameTest (t.readBit bit) := by
  have htaken (u : TestContext) : u.takeError.errorCount = u.errorCount ∨
      u.takeError.errorCount = min 255 (u.errorCount + 1) := by
    unfold TestContext.takeError
    split
    · exact .inr rfl
    · exact .inl rfl
  have hkept (u : TestContext) : u.takeError.bearer = u.bearer ∧ u.takeError.duration = u.duration ∧
      u.takeError.threshold = u.threshold ∧ u.takeError.inject = u.inject ∧ u.takeError.yields = u.yields ∧
      u.takeError.began = u.began ∧ u.takeError.injections = u.injections := by
    unfold TestContext.takeError
    split
    · exact ⟨rfl, rfl, rfl, rfl, rfl, rfl, rfl⟩
    · exact ⟨rfl, rfl, rfl, rfl, rfl, rfl, rfl⟩
  unfold TestContext.readBit
  generalize (if t.locked then t.checker.follow bit else t.checker.hunt bit) = outcome
  obtain ⟨c, report⟩ := outcome
  cases report with
  | nothing => exact TestContext.sameTest_of_errorCount ⟨rfl, rfl, rfl, rfl, rfl, rfl, rfl⟩ (.inl rfl)
  | lock => exact TestContext.sameTest_of_errorCount ⟨rfl, rfl, rfl, rfl, rfl, rfl, rfl⟩ (.inl rfl)
  | bitError => exact TestContext.sameTest_of_errorCount (hkept { t with checker := c }) (htaken { t with checker := c })
  | lockLost => exact TestContext.sameTest_of_errorCount (hkept { t with checker := c }) (htaken { t with checker := c })

theorem TestContext.sameTest_bits (t : TestContext) (fresh k : Nat) : t.sameTest (t.bits fresh k) := by
  induction k generalizing t fresh with
  | zero => exact TestContext.sameTest_of_errorCount ⟨rfl, rfl, rfl, rfl, rfl, rfl, rfl⟩ (.inl rfl)
  | succ k ih =>
    have hsent : t.sameTest t.sendBit :=
      TestContext.sameTest_of_errorCount ⟨rfl, rfl, rfl, rfl, rfl, rfl, rfl⟩ (.inl rfl)
    exact TestContext.sameTest_trans hsent
      (TestContext.sameTest_trans (t.sendBit.sameTest_readBit _) (ih _ (fresh + 1)))

theorem State.tick_of_no_test (h : s.test = none) :
    s.tick = { s with now := s.now + 1, ring := s.ring.tick s.mode.mode } := by
  unfold State.tick State.tickTest
  dsimp only
  rw [h]

theorem State.tick_of_test {t : TestContext} (h : s.test = some t) : s.tick = { s with
    now := s.now + 1, ring := s.ring.tick s.mode.mode, test := some (t.bits s.fresh Config.bitsPerMs)
    fresh := s.fresh + Config.bitsPerMs } := by
  unfold State.tick State.tickTest
  dsimp only
  rw [h]

end

/-- Settles O2: an event that is due, else one millisecond, with or without a test. -/
theorem idleStepTakesDueEventOrMillisecond : Obligations.IdleStepTakesDueEventOrMillisecond := by
  unfold Obligations.IdleStepTakesDueEventOrMillisecond
  rintro s u hidle rfl
  rw [State.step_of_idle hidle]
  refine ⟨fun hdue => State.idleOn_of_due fun hnil => ?_, fun hnone hhanded => ?_⟩
  · obtain ⟨hnone, hhanded⟩ := State.dueEvents_eq_nil_iff.1 hnil
    obtain ⟨c, hc⟩ | hsome := hdue
    · exact hnone c hc
    · exact hsome hhanded
  · rw [State.idleOn_of_nothing (State.dueEvents_eq_nil_iff.2 ⟨hnone, hhanded⟩)]
    refine ⟨fun htest => ⟨fun hmode => ?_, fun hmode => ?_⟩, fun t ht => ⟨?_, t.sameTest_bits _ _⟩⟩
    · rw [State.tick_of_no_test htest, hmode]
      rfl
    · rw [State.tick_of_no_test htest, hmode]
      rfl
    · rw [State.tick_of_test ht]
      cases (atInstant s).mode.mode with
      | active => rfl
      | conserve => rfl

end Sys2Proof.Machine
